-- ==== Sys2Proof/Word.lean ====
section
/-! DEFINITION. The words of the CT-18: bytes of frames and 16-bit words of table entries (section 4.4 of 00_scope.md). -/

namespace Sys2Proof

/-- A data byte of a CAN frame (00_scope.md, section 4.4). -/
abbrev Byte := BitVec 8

/-- A word of a table entry (00_scope.md, section 4.4; R183). -/
abbrev Word := BitVec 16

end Sys2Proof
end

