-- ==== Sys2Proof/Syntax.lean ====
section
/-! DEFINITION. The commands and events the CT-18 takes: one constructor of `Instr` for each row of
spec/opcode_table.json, with the operands the event carries. -/

namespace Sys2Proof

/-- The three CAN ports (00_scope.md, section 1.2). -/
inductive Port where
  | w | m | t
  deriving DecidableEq, Repr

/-- A classical CAN data frame: an 11-bit identifier and its data bytes, byte 0 first (00_scope.md, section 4.4).
Its data length is the length of `data`. -/
structure Frame where
  id : BitVec 11
  data : List Byte
  deriving DecidableEq, Repr

/-- The levels of the strap pins: the management channel and the bit rate of each port (00_scope.md, section 6). -/
structure Straps where
  mch : BitVec 6
  wRate : BitVec 2
  mRate : BitVec 2
  tRate : BitVec 2
  deriving DecidableEq, Repr

/-- One command or event. A frame row carries the frame's channel and its data bytes as received. A management
row carries the tag and the argument bytes of the MGMT frame as received (byte 0, and bytes 2 on; R6). -/
inductive Instr where
  /-- FRAME_RECEIVED (R1): a port's controller has taken in a complete data frame. -/
  | frameReceived (port : Port) (frame : Frame)
  /-- TRANSMIT_COMPLETE (R19): the frame in flight on the port has been sent. -/
  | transmitComplete (port : Port)
  /-- LINK_LOST (R20): the port's controller has left the bus. -/
  | linkLost (port : Port)
  /-- LINK_RESTORED (R22): the port's controller has rejoined the bus. -/
  | linkRestored (port : Port)
  /-- LEVER (R28): a LEVER frame received on W. -/
  | lever (ch : BitVec 6) (data : List Byte)
  /-- HELM (R29): a HELM frame received on W. -/
  | helm (ch : BitVec 6) (data : List Byte)
  /-- TAKE (R32): a TAKE frame received on W. -/
  | take (ch : BitVec 6) (data : List Byte)
  /-- WATCH (R36): a WATCH frame received on W. -/
  | watch (ch : BitVec 6) (data : List Byte)
  /-- GOV_REPORT (R76): a GOV-REPORT frame received on M. -/
  | govReport (ch : BitVec 6) (data : List Byte)
  /-- RUD_REPORT (R99): a RUD-REPORT frame received on M or T. -/
  | rudReport (port : Port) (ch : BitVec 6) (data : List Byte)
  /-- COUPLE_REPORT (R115): a COUPLE-REPORT frame received on T. -/
  | coupleReport (ch : BitVec 6) (data : List Byte)
  /-- FLOW (R149): a FLOW frame received on M. -/
  | flow (ch : BitVec 6) (data : List Byte)
  /-- TABLE_OPEN (R185). -/
  | tableOpen (tag : Byte) (args : List Byte)
  /-- TABLE_WRITE (R187). -/
  | tableWrite (tag : Byte) (args : List Byte)
  /-- TABLE_CLOSE (R188). -/
  | tableClose (tag : Byte) (args : List Byte)
  /-- TABLE_READ_SEEK (R191). -/
  | tableReadSeek (tag : Byte) (args : List Byte)
  /-- TABLE_READ (R191). -/
  | tableRead (tag : Byte) (args : List Byte)
  /-- TABLE_STATE (R192). -/
  | tableState (tag : Byte) (args : List Byte)
  /-- SET_PARAM (R194). -/
  | setParam (tag : Byte) (args : List Byte)
  /-- GET_PARAM (R194). -/
  | getParam (tag : Byte) (args : List Byte)
  /-- RECORD_READ (R195). -/
  | recordRead (tag : Byte) (args : List Byte)
  /-- COUNTER_READ (R195). -/
  | counterRead (tag : Byte) (args : List Byte)
  /-- NOTICE_CLEAR (R197). -/
  | noticeClear (tag : Byte) (args : List Byte)
  /-- SNAP_CAPTURE (R178). -/
  | snapCapture (tag : Byte) (args : List Byte)
  /-- SNAP_READ (R181). -/
  | snapRead (tag : Byte) (args : List Byte)
  /-- BUNKER (R172). -/
  | bunker (tag : Byte) (args : List Byte)
  /-- TRANSFER (R173). -/
  | transfer (tag : Byte) (args : List Byte)
  /-- COUPLE_RELEASE (R135). -/
  | coupleRelease (tag : Byte) (args : List Byte)
  /-- COUPLE_DETACH (R121). -/
  | coupleDetach (tag : Byte) (args : List Byte)
  /-- COUPLE_ATTACH (R122). -/
  | coupleAttach (tag : Byte) (args : List Byte)
  /-- POLL_NOW (R114). -/
  | pollNow (tag : Byte) (args : List Byte)
  /-- ACTUATOR_RESET (R101). -/
  | actuatorReset (tag : Byte) (args : List Byte)
  /-- RESTART_COMMAND (R199): the MGMT command RESTART. -/
  | restartCommand (tag : Byte) (args : List Byte)
  /-- UNKNOWN_COMMAND (R193): an MGMT frame whose command code names no command. -/
  | unknownCommand (tag code : Byte) (args : List Byte)
  /-- RAMP_TIMER_EXPIRY (R42). -/
  | rampTimerExpiry
  /-- DWELL_TIMER_EXPIRY (R70), of one engine's channel. -/
  | dwellTimerExpiry (engine : Fin 4)
  /-- FRESHNESS_TIMER_EXPIRY (R73), of one engine's channel. -/
  | freshnessTimerExpiry (engine : Fin 4)
  /-- HOLD_TIMER_EXPIRY (R74), of one engine's channel. -/
  | holdTimerExpiry (engine : Fin 4)
  /-- STEERING_TIMER_EXPIRY (R88). -/
  | steeringTimerExpiry
  /-- HELM_TIMER_EXPIRY (R96). -/
  | helmTimerExpiry
  /-- POLL_TIMER_EXPIRY (R111). -/
  | pollTimerExpiry
  /-- RELEASE_TIMER_EXPIRY (R141). -/
  | releaseTimerExpiry
  /-- POWER_ON_RESET (R198): the RESET line falls, or power is applied. -/
  | powerOnReset
  /-- WARM_RESTART (R199): the RESTART line falls. -/
  | warmRestart
  /-- END_OF_RESTART (R24): the restart line is released; the operand is what the strap pins read then. -/
  | endOfRestart (straps : Straps)
  deriving DecidableEq, Repr

end Sys2Proof
end

