-- ==== Sys2Proof/Config.lean ====
section
/-! DEFINITION. What the part fixes once: capacities, limits and frame kinds that the spec gives as numbers.
One value that the spec does not state is a free value here. -/

namespace Sys2Proof.Config

/-- Capacity of a port's URGENT queue (R10). -/
def urgentCap : Nat := 16

/-- Capacity of a port's ROUTINE queue (R10). -/
def routineCap : Nat := 16

/-- Capacity of a port's BULK queue (R10). -/
def bulkCap : Nat := 8

/-- Where the 16-bit counters of R195 saturate. -/
def counterMax : Nat := 65535

/-- Where a passed-over count saturates (R15). -/
def passedMax : Nat := 63

/-- Where a coupling record's age saturates (R108). -/
def ageMax : Nat := 4095

/-- Where the engine totals and the unassigned accumulator saturate: 2^47 - 1 (R156, R158). -/
def volumeMax : Nat := 140737488355327

/-- Greatest capacity of a tank in use, in litres (R167). -/
def tankMax : Nat := 2000000

/-- Greatest value of an unsigned 24-bit snapshot item (R178). -/
def litresMax : Nat := 16777215

/-- The two baseline bytes that RECORD-READ returns for a meter, by its index, while its baseline is empty. A free value,
DESIGN CHOICE (log entry 21): R165 and R204 state none. -/
opaque emptyBaseline : Nat → Word

end Sys2Proof.Config
end

