-- ==== Sys2Proof/Machine/State.lean ====
section
/-! DEFINITION. The state of the CT-18 as plain data, one record for each unit of 00_scope.md section 1.4, and the
state right after the end of a power-on reset. -/

namespace Sys2Proof.Machine

/-- No event stops the part: a wrong command is answered by a status (R193) and a wrong frame is counted or ignored
(R4, R26, R76, R99, R115, R149). So no meaning raises a fault. -/
inductive Fault where
  deriving DecidableEq, Repr

/-- Why a step has no meaning. -/
inductive Refusal where
  /-- Raised by `exec` for a row that has no meaning yet. Safe: the machine stops where the part goes on. -/
  | notModelled (mnemonic : String)
  deriving DecidableEq, Repr

/-! ### Port units and notice unit -/

/-- Link state of a port (R20, R22). -/
inductive Link where
  | up | down
  deriving DecidableEq, Repr

/-- The classes a forwarded copy, a reply or a notice may take (R10). -/
inductive LowClass where
  | routine | bulk
  deriving DecidableEq, Repr

/-- The three queue classes of a port (R10). -/
inductive QueueClass where
  | urgent | routine | bulk
  deriving DecidableEq, Repr

/-- A port unit: link state, three transmit queues (oldest first), the frame in flight as the class whose head it
is, the passed-over counts of the arbiter, the two counters and the latched bit rate (R1, R10, R15, R16, R23). -/
structure PortUnit where
  link : Link
  urgent : List Frame
  routine : List Frame
  bulk : List Frame
  inFlight : Option QueueClass
  passedRoutine : Nat
  passedBulk : Nat
  malformed : Nat
  frameLoss : Nat
  bitRate : BitVec 2
  deriving DecidableEq, Repr

/-- The twenty notice kinds in the order of their numbers (section 10.8 of 10). -/
inductive NoticeKind where
  | stationTransfer | leverLost | helmLost | actuatorFault | derateRaised | derateLowered
  | couplingOverload | couplingStale | couplingParted | releaseDone | releaseAborted | releaseFailed
  | meterGlitch | flowWithoutRun | tankReserve | tankShortfall | snapshotRenewed | frameLoss
  | portDown | tableRejected
  deriving DecidableEq, Repr

/-- The flag and the last index of a notice kind (R196). -/
structure Notice where
  flag : Bool
  last : Nat
  deriving DecidableEq, Repr

/-- The three port units and the notice unit: what placing a frame in a queue or raising a notice can change. -/
structure Comms where
  w : PortUnit
  m : PortUnit
  t : PortUnit
  notices : Vector Notice 20
  deriving DecidableEq, Repr

/-! ### Station unit -/

/-- A station record (R25). An empty last sequence is `none`. -/
structure StationRecord where
  seqLever : Option Nat
  seqHelm : Option Nat
  seqTake : Option Nat
  seqWatch : Option Nat
  lever : Vector Int 4
  helm : Int
  repeats : Nat
  deriving DecidableEq, Repr

/-- The station unit: four station records, the command record and the demands (R25, R31, section 2.2). -/
structure StationUnit where
  records : Vector StationRecord 4
  command : Fin 4
  lever : Vector Int 4
  helm : Int
  deriving DecidableEq, Repr

/-! ### Propulsion unit -/

/-- A direction: a demanded direction, an engaged direction (`neutral` for none) or a reported gear (R202). -/
inductive Direction where
  | neutral | ahead | astern
  deriving DecidableEq, Repr

/-- The five gear states (R63). -/
inductive Gear where
  | neutral | ahead | astern | slowing | dwell
  deriving DecidableEq, Repr

/-- The direction of the last stepping (R44, R85). -/
inductive RampDir where
  | none | rising | falling
  deriving DecidableEq, Repr

/-- Freshness state of an engine channel (R63). -/
inductive Freshness where
  | live | holding | idled
  deriving DecidableEq, Repr

/-- An engine channel: the items of R63 and the computation fields of R44. A stopped timer is `none`; a running one
is the period it was loaded with (log entry 2). -/
structure EngineChannel where
  gear : Gear
  engaged : Direction
  dwellTimer : Option Nat
  fresh : Freshness
  freshTimer : Option Nat
  holdTimer : Option Nat
  repRpm : Nat
  repGear : Direction
  reported : Bool
  trim : Int
  c : Nat
  a : Nat
  ramp : RampDir
  lastRaw : Nat
  lastTarget : Nat
  lastCap : Nat
  lastOutput : Nat
  lastD : Nat
  lastDir : Direction
  lastDetent : Nat
  fuelCap : Bool
  deriving DecidableEq, Repr

/-- The propulsion unit: ramp timer, engine channels and the sync active indications of groups 1 and 2, each with
the gear its group was found in at the last pass 2 (R41, R63, R80). -/
structure PropulsionUnit where
  rampTimer : Nat
  channels : Vector (Option EngineChannel) 4
  sync1 : Option Direction
  sync2 : Option Direction
  deriving DecidableEq, Repr

/-! ### Steering unit -/

/-- The four actuator states (R85). -/
inductive ActuatorState where
  | align | following | fault | gated
  deriving DecidableEq, Repr

/-- An actuator record (R85). -/
structure Actuator where
  state : ActuatorState
  target : Int
  output : Int
  remainder : Nat
  ramp : RampDir
  count : Nat
  lastReported : Int
  reported : Bool
  deriving DecidableEq, Repr

/-- Helm freshness (R85). -/
inductive HelmFreshness where
  | live | held
  deriving DecidableEq, Repr

/-- The steering unit (R85, R88). -/
structure SteeringUnit where
  steeringTimer : Nat
  helmFresh : HelmFreshness
  helmTimer : Option Nat
  actuators : Vector (Option Actuator) 8
  deriving DecidableEq, Repr

/-! ### Coupling supervisor and release controller -/

/-- The eight coupling states (R108). -/
inductive CouplingState where
  | unknown | made | slack | overload | stale | parted | releasing | released
  deriving DecidableEq, Repr

/-- A coupling record (R108). `pinOpen` is true for DISENGAGED. -/
structure CouplingRecord where
  state : CouplingState
  tension : Nat
  pinOpen : Bool
  age : Nat
  deriving DecidableEq, Repr

/-- The coupling supervisor with the release controller: records, tow items, poll timer, release slot and release
timer (R108, R110, R133). -/
structure CouplingUnit where
  pollTimer : Nat
  records : Vector (Option CouplingRecord) 48
  walk : Nat
  level : Nat
  hold : Nat
  slot : Option (Fin 48)
  releaseTimer : Option Nat
  deriving DecidableEq, Repr

/-! ### Fuel unit -/

/-- A meter record (R147). -/
structure MeterRecord where
  baseline : Option Nat
  ra : Nat
  rb : Nat
  glitches : Nat
  temp : Int
  amount : Nat
  deriving DecidableEq, Repr

/-- The supply and return totals of an engine index (R156). -/
structure EngineTotals where
  supply : Nat
  ret : Nat
  deriving DecidableEq, Repr

/-- A tank record (R166), in standard millilitres. -/
structure TankRecord where
  balance : Nat
  credits : Nat
  debits : Nat
  shortfall : Nat
  excess : Nat
  reserve : Bool
  deriving DecidableEq, Repr

/-- Why a capture was taken (R178). -/
inductive CaptureReason where
  | mgmt | watch
  deriving DecidableEq, Repr

/-- One capture of the fuel account (R178). -/
structure Capture where
  sequence : Nat
  reason : CaptureReason
  tanksPresent : Vector Bool 8
  supply : Vector Nat 4
  ret : Vector Nat 4
  mass : Vector Nat 4
  balance : Vector Nat 8
  unassigned : Int
  shortfall : Nat
  deriving DecidableEq, Repr

/-- A HELD snapshot buffer: its capture and the renewal flag (R177). -/
structure Snapshot where
  capture : Capture
  renewal : Bool
  deriving DecidableEq, Repr

/-- The fuel unit (R147, R156, R158, R166, R177). The EMPTY snapshot buffer is `none`. -/
structure FuelUnit where
  meters : Vector MeterRecord 8
  engines : Vector EngineTotals 4
  unassigned : Int
  tanks : Vector (Option TankRecord) 8
  snapshot : Option Snapshot
  captureSeq : Nat
  deriving DecidableEq, Repr

/-! ### Table and management unit -/

/-- The eight tables in the order of their ids (R183). -/
inductive TableId where
  | station | engine | curve | actuator | coupling | meter | tank | route
  deriving DecidableEq, Repr

/-- The four table states (R184). -/
inductive TableState where
  | empty | loading | ready | rejected
  deriving DecidableEq, Repr

/-- The rejection causes (R184); `none` when there is none. -/
inductive Cause where
  | none | count | check | content | restart
  deriving DecidableEq, Repr

/-- A table of table memory: state, rejection cause, declared count and the words of its extent, a word not yet
written being 0 (R184, R185). -/
structure Table where
  state : TableState
  cause : Cause
  count : Nat
  words : List Word
  deriving DecidableEq, Repr

/-- The table and management unit's own state (R184, section 10.2, R191). -/
structure TableUnit where
  tables : Vector Table 8
  loadSlot : Option TableId
  writeIndex : Nat
  readTable : TableId
  readIndex : Nat
  deriving DecidableEq, Repr

/-- A port default: an egress port set (bit 0 W, bit 1 M, bit 2 T) and a class (R9, R203). -/
structure PortDefault where
  egress : BitVec 3
  cls : LowClass
  deriving DecidableEq, Repr

/-- The parameter set (R194). -/
structure Params where
  propInterval : Nat
  steerInterval : Nat
  leverTimeout : Nat
  leverHold : Nat
  helmTimeout : Nat
  reversalDwell : Nat
  pollInterval : Nat
  staleLimit : Nat
  derateHold : Nat
  deratePct1 : Nat
  deratePct2 : Nat
  deratePct3 : Nat
  reservePct : Nat
  releaseTimeout : Nat
  matchWindow : Nat
  centreWindow : Nat
  followWindow : Nat
  followCount : Nat
  runFlowLimit : Nat
  syncStep : Nat
  syncLimit : Nat
  patienceRoutine : Nat
  patienceBulk : Nat
  defaultW : PortDefault
  defaultM : PortDefault
  defaultT : PortDefault
  noticeEnable : BitVec 20
  deriving DecidableEq, Repr

/-- The two restart kinds (00_scope.md, section 4.6). -/
inductive RestartKind where
  | powerOn | warm
  deriving DecidableEq, Repr

/-- The whole part. `straps` are the levels the strap pins had when they were last read, `channel` the management channel latched
from them, `restart` the restart the part is held in, `replyWait` the restart pending state with the number of
frames ahead of the RESTART REPLY in W's BULK queue (R199), and `pending` the model's own queue of commands. -/
structure State where
  comms : Comms
  station : StationUnit
  prop : PropulsionUnit
  steer : SteeringUnit
  coup : CouplingUnit
  fuel : FuelUnit
  mgmt : TableUnit
  params : Params
  straps : Straps
  channel : BitVec 6
  restart : Option RestartKind
  replyWait : Option Nat
  pending : List Instr
  deriving DecidableEq, Repr

/-! ### Values after a power-on reset -/

/-- A port unit after a restart (R24). -/
def PortUnit.restarted (rate : BitVec 2) : PortUnit :=
  { link := .up, urgent := [], routine := [], bulk := [], inFlight := none, passedRoutine := 0,
    passedBulk := 0, malformed := 0, frameLoss := 0, bitRate := rate }

/-- The ports and the notice unit after either restart (R24, R197). -/
def Comms.restarted (straps : Straps) : Comms :=
  { w := PortUnit.restarted straps.wRate, m := PortUnit.restarted straps.mRate,
    t := PortUnit.restarted straps.tRate, notices := Vector.replicate 20 { flag := false, last := 0 } }

/-- A station record after a power-on reset (R38). -/
def StationRecord.blank : StationRecord :=
  { seqLever := none, seqHelm := none, seqTake := none, seqWatch := none,
    lever := Vector.replicate 4 0, helm := 0, repeats := 0 }

/-- A meter record after a power-on reset (R163). -/
def MeterRecord.blank : MeterRecord :=
  { baseline := none, ra := 0, rb := 0, glitches := 0, temp := 150, amount := 0 }

/-- An EMPTY table (R184, R198). -/
def Table.blank : Table := { state := .empty, cause := .none, count := 0, words := [] }

/-- The power-on values of the parameters (R194). -/
def Params.powerOn : Params :=
  { propInterval := 50, steerInterval := 40, leverTimeout := 500, leverHold := 3000, helmTimeout := 500,
    reversalDwell := 2000, pollInterval := 50, staleLimit := 200, derateHold := 600, deratePct1 := 80,
    deratePct2 := 60, deratePct3 := 40, reservePct := 70, releaseTimeout := 15000, matchWindow := 64,
    centreWindow := 30, followWindow := 50, followCount := 10, runFlowLimit := 200, syncStep := 2,
    syncLimit := 30, patienceRoutine := 4, patienceBulk := 8,
    defaultW := { egress := 0b010, cls := .routine }, defaultM := { egress := 0b001, cls := .routine },
    defaultT := { egress := 0b001, cls := .routine }, noticeEnable := 0xFFFFF }

/-- The strap levels of `State.reset`. DESIGN CHOICE (log entry 12), unsafe: the spec leaves the straps to the
installer. -/
def Straps.low : Straps := { mch := 0, wRate := 0, mRate := 0, tRate := 0 }

/-- The part at the end of a power-on reset whose straps read `straps`, with `pending` waiting
(R24, R38, R62, R83, R106, R131, R144, R163, R175, R177, R198). -/
def State.poweredOn (straps : Straps) (pending : List Instr) : State :=
  { comms := Comms.restarted straps
    station := { records := Vector.replicate 4 StationRecord.blank, command := 0,
                 lever := Vector.replicate 4 0, helm := 0 }
    prop := { rampTimer := 50, channels := Vector.replicate 4 none, sync1 := none, sync2 := none }
    steer := { steeringTimer := 40, helmFresh := .held, helmTimer := none,
               actuators := Vector.replicate 8 none }
    coup := { pollTimer := 50, records := Vector.replicate 48 none, walk := 0, level := 0, hold := 0,
              slot := none, releaseTimer := none }
    fuel := { meters := Vector.replicate 8 MeterRecord.blank,
              engines := Vector.replicate 4 { supply := 0, ret := 0 }, unassigned := 0,
              tanks := Vector.replicate 8 none, snapshot := none, captureSeq := 0 }
    mgmt := { tables := Vector.replicate 8 Table.blank, loadSlot := none, writeIndex := 0,
              readTable := .station, readIndex := 0 }
    params := Params.powerOn
    straps := straps
    channel := straps.mch
    restart := none
    replyWait := none
    pending := pending }

/-- The machine right after reset: the end of a power-on reset, no command waiting. -/
def State.reset : State := State.poweredOn Straps.low []

end Sys2Proof.Machine
end

