-- ==== Sys2Proof/Machine/Operands.lean ====
section
/-! DEFINITION. Operand forms: the bytes of frames and arguments, the clamping of decoded fields (R5), the fields
of the table entries as the units use them (R25, R45, R86, R109, R148, R167, R189, R205), and the codes of frames
and replies (R201, R202). -/

namespace Sys2Proof.Machine

/-! ### Numbers -/

/-- Replace a value below the range by its lower end and a value above it by its upper end (00_scope.md, 4.2). -/
def clampNat (lo hi v : Nat) : Nat := max lo (min hi v)

/-- `clampNat` for signed values (00_scope.md, 4.2). -/
def clampInt (lo hi v : Int) : Int := max lo (min hi v)

/-- A counter that saturates at `top` rises by `k` (00_scope.md, 4.2). -/
def satAdd (top n k : Nat) : Nat := min top (n + k)

/-- Two's complement value of an unsigned number of `bits` bits (00_scope.md, 4.4). -/
def signedOf (bits n : Nat) : Int := if n < 2 ^ (bits - 1) then (n : Int) else (n : Int) - (2 ^ bits : Nat)

/-! ### Vectors of a fixed number of records -/

/-- The vector with entry `i` replaced. -/
def put {α : Type} {n : Nat} (v : Vector α n) (i : Fin n) (x : α) : Vector α n := v.set i.val x i.isLt

/-- The vector with each entry replaced by what `f` makes of its index and value. -/
def remap {α β : Type} {n : Nat} (v : Vector α n) (f : Fin n → α → β) : Vector β n :=
  Vector.ofFn fun i => f i v[i]

/-- An index below `n`, from a number. -/
def index? (n k : Nat) : Option (Fin n) := if h : k < n then some ⟨k, h⟩ else none

/-! ### Bytes -/

/-- The unsigned byte `k` of a frame or an argument list. -/
def byteAt (data : List Byte) (k : Nat) : Nat := (data.getD k 0).toNat

/-- The unsigned 16-bit field at byte `k`, most significant byte first (section 12 of 12). -/
def u16At (data : List Byte) (k : Nat) : Nat := byteAt data k * 256 + byteAt data (k + 1)

/-- The signed 16-bit field at byte `k`. -/
def s16At (data : List Byte) (k : Nat) : Int := signedOf 16 (u16At data k)

/-- The unsigned 24-bit field at byte `k`. -/
def u24At (data : List Byte) (k : Nat) : Nat := u16At data k * 256 + byteAt data (k + 2)

/-- The unsigned 32-bit field at byte `k`. -/
def u32At (data : List Byte) (k : Nat) : Nat := u24At data k * 256 + byteAt data (k + 3)

/-- `n` bytes carrying `v`, most significant first. -/
def bytesOf : Nat → Nat → List Byte
  | 0, _ => []
  | n + 1, v => BitVec.ofNat 8 (v / 256 ^ n) :: bytesOf n v

/-- An unsigned result field of `n` bytes: a value larger than the field is its greatest value (R201). -/
def fieldOf (n v : Nat) : List Byte := bytesOf n (min v (256 ^ n - 1))

/-- A signed result field of `n` bytes (R201). -/
def signedField (n : Nat) (v : Int) : List Byte := bytesOf n (v % ((256 ^ n : Nat) : Int)).toNat

/-- A yes or no as one byte. -/
def flagByte (b : Bool) : Byte := if b then 1 else 0

/-- The words carried by a list of bytes, two bytes each, most significant first (R187). -/
def wordsOf : List Byte → List Word
  | hi :: lo :: rest => (hi ++ lo) :: wordsOf rest
  | _ => []

/-- The bytes of a list of words (R191). -/
def bytesOfWords : List Word → List Byte
  | [] => []
  | x :: xs => x.extractLsb' 8 8 :: x.extractLsb' 0 8 :: bytesOfWords xs

/-! ### Frames -/

/-- The kind of a frame: the identifier divided by 64 (R2). -/
def kindOf (f : Frame) : Nat := f.id.toNat / 64

/-- The channel of a frame: the remainder (R2). -/
def channelOf (f : Frame) : Nat := f.id.toNat % 64

/-- The frame of a kind and channel with the data given (section 4.4 of 00). -/
def frameOf (kind : Nat) (ch : Nat) (data : List Byte) : Frame :=
  { id := BitVec.ofNat 11 (kind * 64 + ch), data := data }

/-- The number of a port in notices and tables: W 0, M 1, T 2 (R11, R202). -/
def portNum : Port → Nat
  | .w => 0
  | .m => 1
  | .t => 2

/-- The coalescing key of an URGENT frame: kind and channel, and for COUPLE-CMD (kind 4) its sub-index byte too
(R12). -/
def keyOf (f : Frame) : BitVec 11 × Option Byte :=
  (f.id, if kindOf f = 4 then f.data.head? else none)

/-- The number of a notice kind (section 10.8 of 10). -/
def noticeNum : NoticeKind → Fin 20
  | .stationTransfer => 0
  | .leverLost => 1
  | .helmLost => 2
  | .actuatorFault => 3
  | .derateRaised => 4
  | .derateLowered => 5
  | .couplingOverload => 6
  | .couplingStale => 7
  | .couplingParted => 8
  | .releaseDone => 9
  | .releaseAborted => 10
  | .releaseFailed => 11
  | .meterGlitch => 12
  | .flowWithoutRun => 13
  | .tankReserve => 14
  | .tankShortfall => 15
  | .snapshotRenewed => 16
  | .frameLoss => 17
  | .portDown => 18
  | .tableRejected => 19

/-- The statuses of a REPLY (R193). -/
inductive Status where
  | ok | clamped | busy | badState | badIndex | badValue | inUse | interlock | notPowered | rejected
  | empty | renewed
  deriving DecidableEq, Repr

/-- Status codes (R202). -/
def statusCode : Status → Byte
  | .ok => 0
  | .clamped => 1
  | .busy => 2
  | .badState => 3
  | .badIndex => 4
  | .badValue => 5
  | .inUse => 6
  | .interlock => 7
  | .notPowered => 8
  | .rejected => 9
  | .empty => 10
  | .renewed => 11

/-! ### Codes of enumerated values (R202) -/

def gearCode : Gear → Byte
  | .neutral => 0
  | .ahead => 1
  | .astern => 2
  | .slowing => 3
  | .dwell => 4

def directionCode : Direction → Byte
  | .neutral => 0
  | .ahead => 1
  | .astern => 2

def rampCode : RampDir → Byte
  | .none => 0
  | .rising => 1
  | .falling => 2

def freshnessCode : Freshness → Byte
  | .live => 0
  | .holding => 1
  | .idled => 2

def helmFreshnessCode : HelmFreshness → Byte
  | .live => 0
  | .held => 1

def actuatorStateCode : ActuatorState → Byte
  | .align => 0
  | .following => 1
  | .fault => 2
  | .gated => 3

def couplingStateCode : CouplingState → Byte
  | .unknown => 0
  | .made => 1
  | .slack => 2
  | .overload => 3
  | .stale => 4
  | .parted => 5
  | .releasing => 6
  | .released => 7

def tableStateCode : TableState → Byte
  | .empty => 0
  | .loading => 1
  | .ready => 2
  | .rejected => 3

def causeCode : Cause → Byte
  | .none => 0
  | .count => 1
  | .check => 2
  | .content => 3
  | .restart => 4

def reasonCode : CaptureReason → Nat
  | .mgmt => 0
  | .watch => 1

/-- Interlock conditions in the interlock order (R134). -/
inductive Interlock where
  | enginesEngaged | helmOffCentre | bowActive | underLoad
  deriving DecidableEq, Repr

/-- Code of an interlock condition, and its bit in an interlock set (R202). -/
def interlockCode : Interlock → Nat
  | .enginesEngaged => 0
  | .helmOffCentre => 1
  | .bowActive => 2
  | .underLoad => 3

/-- The conditions in the interlock order (R134). -/
def interlockOrder : List Interlock := [.enginesEngaged, .helmOffCentre, .bowActive, .underLoad]

/-! ### Clamping of decoded fields (R5) -/

/-- A sequence: values above 15 become 15. -/
def seqField (v : Nat) : Nat := min v 15

/-- The engines an engine selector addresses: one, or all four for 255; 4..254 become 3. -/
def selected (sel : Nat) (e : Fin 4) : Bool := if sel = 255 then true else decide (e.val = min sel 3)

/-- A direction from a reported gear: values above 2 become 2. -/
def gearField (v : Nat) : Direction :=
  if v = 0 then .neutral else if v = 1 then .ahead else .astern

/-! ### Table memory (R183, R205) -/

def tableNum : TableId → Fin 8
  | .station => 0
  | .engine => 1
  | .curve => 2
  | .actuator => 3
  | .coupling => 4
  | .meter => 5
  | .tank => 6
  | .route => 7

/-- The table of an id, none above 7 (R185). -/
def tableOfNum : Nat → Option TableId
  | 0 => some .station
  | 1 => some .engine
  | 2 => some .curve
  | 3 => some .actuator
  | 4 => some .coupling
  | 5 => some .meter
  | 6 => some .tank
  | 7 => some .route
  | _ => none

/-- Maximum entries of a table (R183). -/
def maxEntries : TableId → Nat
  | .station => 4
  | .engine => 4
  | .curve => 68
  | .actuator => 8
  | .coupling => 48
  | .meter => 8
  | .tank => 8
  | .route => 64

/-- Words per entry of a table (R183). -/
def wordsPerEntry : TableId → Nat
  | .station => 3
  | .engine => 12
  | .curve => 1
  | .actuator => 9
  | .coupling => 10
  | .meter => 8
  | .tank => 7
  | .route => 7

/-- The table of an id. -/
def State.table (s : State) (t : TableId) : Table := s.mgmt.tables[tableNum t]

/-- The state with a table replaced. -/
def State.withTable (t : TableId) (x : Table) (s : State) : State :=
  { s with mgmt := { s.mgmt with tables := put s.mgmt.tables (tableNum t) x } }

/-- Whether a table is READY (R184). -/
def State.ready (s : State) (t : TableId) : Bool := decide ((s.table t).state = .ready)

/-- Whether a READY table's declared count reaches an index (00_scope.md, 4.5). -/
def State.reaches (s : State) (t : TableId) (i : Nat) : Bool :=
  s.ready t && decide (i < (s.table t).count)

/-- Word `k` of entry `i` of a table with `width` words per entry, as written. -/
def Table.word (x : Table) (width i k : Nat) : Nat := (x.words.getD (i * width + k) 0).toNat

/-- Word `k` of entry `i` of a table, as written. -/
def State.entryWord (s : State) (t : TableId) (i k : Nat) : Nat :=
  (s.table t).word (wordsPerEntry t) i k

/-- Two words of an entry as one value, most significant first. -/
def Table.word2 (x : Table) (width i k : Nat) : Nat := x.word width i k * 65536 + x.word width i (k + 1)

/-! ### STATION entries (R25, R26) -/

/-- A detent word clamped to the nearest of 1, 8, 32 and 64, the smaller when halfway (R25). -/
def detentOf (v : Nat) : Nat := if v ≤ 4 then 1 else if v ≤ 20 then 8 else if v ≤ 48 then 32 else 64

/-- Whether a station is enabled (R25). -/
def State.stationEnabled (s : State) (i : Fin 4) : Bool :=
  s.reaches .station i.val && decide (s.entryWord .station i.val 0 ≠ 0)

/-- The node channel of a station's entry (R26). -/
def State.stationChannel (s : State) (i : Fin 4) : Nat := s.entryWord .station i.val 1

/-- The clamped detent of a station's entry, or 1 when there is none (R25, R30). -/
def State.stationDetent (s : State) (i : Fin 4) : Nat :=
  if s.reaches .station i.val then detentOf (s.entryWord .station i.val 2) else 1

/-! ### ENGINE and CURVE entries (R45, R48) -/

/-- An ENGINE entry with its fields clamped as used (R45, R78). -/
structure EngineEntry where
  channel : Nat
  idle : Nat
  aheadMax : Nat
  asternMax : Nat
  aheadCurve : Nat
  asternCurve : Nat
  upRate : Nat
  downRate : Nat
  deadband : Nat
  group : Nat
  feedTank : Option (Fin 8)
  deriving DecidableEq, Repr

/-- The ENGINE entry of an index as the propulsion unit uses it (R45). -/
def State.engineEntry (s : State) (e : Fin 4) : EngineEntry :=
  let w := s.entryWord .engine e.val
  let idle := clampNat 300 1500 (w 2)
  { channel := min 63 (w 1), idle := idle, aheadMax := clampNat idle 3000 (w 3),
    asternMax := clampNat idle 3000 (w 4), aheadCurve := min 3 (w 5), asternCurve := min 3 (w 6),
    upRate := clampNat 1 1000 (w 7), downRate := clampNat 1 2000 (w 8), deadband := min 256 (w 9),
    group := w 10, feedTank := index? 8 (w 11) }

/-- Whether an engine's entry is enabled in the READY ENGINE table (R41). -/
def State.engineEnabled (s : State) (e : Fin 4) : Bool :=
  s.reaches .engine e.val && decide (s.entryWord .engine e.val 0 ≠ 0)

/-- Whether curve `c` is available (R48). -/
def State.curveAvailable (s : State) (c : Nat) : Bool :=
  s.ready .curve && decide (17 * (c + 1) ≤ (s.table .curve).count)

/-- Point `p` of curve `c`, clamped to 0..3000 in use (R48). -/
def State.curvePoint (s : State) (c p : Nat) : Nat := min 3000 (s.entryWord .curve (17 * c + p) 0)

/-! ### ACTUATOR entries (R86) -/

/-- The three actuator kinds. -/
inductive ActuatorKind where
  | main | flanking | bow
  deriving DecidableEq, Repr

/-- An actuator kind from its code: MAIN for any code that is not FLANKING or BOW (R86). -/
def actuatorKindOf (v : Nat) : ActuatorKind := if v = 1 then .flanking else if v = 2 then .bow else .main

/-- An ACTUATOR entry with its fields clamped as used (R86). -/
structure ActuatorEntry where
  kind : ActuatorKind
  port : Port
  channel : Nat
  engine : Fin 4
  gain : Int
  limit : Nat
  rate : Nat
  bow : Fin 48
  deriving DecidableEq, Repr

/-- The ACTUATOR entry of an index as the steering unit uses it (R86). -/
def State.actuatorEntry (s : State) (j : Fin 8) : ActuatorEntry :=
  let w := s.entryWord .actuator j.val
  let kind := actuatorKindOf (w 1)
  { kind := kind, port := if w 2 = 2 then .t else .m, channel := min 63 (w 3),
    engine := ⟨min 3 (w 4), by omega⟩, gain := clampInt (-2500) 2500 (signedOf 16 (w 5)),
    limit := if kind = .bow then min 1000 (w 6) else min 450 (w 6), rate := clampNat 1 600 (w 7),
    bow := ⟨min 47 (w 8), by omega⟩ }

/-- Whether an actuator's entry is enabled in the READY ACTUATOR table (R85). -/
def State.actuatorEnabled (s : State) (j : Fin 8) : Bool :=
  s.reaches .actuator j.val && decide (s.entryWord .actuator j.val 0 ≠ 0)

/-! ### COUPLING entries (R109) -/

/-- The four coupling kinds. -/
inductive CouplingKind where
  | face | foreAft | side | bowBoat
  deriving DecidableEq, Repr

/-- A coupling kind from its code: FACE for any code outside the list (R109). -/
def couplingKindOf (v : Nat) : CouplingKind :=
  if v = 1 then .foreAft else if v = 2 then .side else if v = 3 then .bowBoat else .face

def couplingKindCode : CouplingKind → Byte
  | .face => 0
  | .foreAft => 1
  | .side => 2
  | .bowBoat => 3

/-- A COUPLING entry with its fields as used (R109); `top` is the overload threshold. -/
structure CouplingEntry where
  channel : Nat
  sub : Nat
  kind : CouplingKind
  crit : Nat
  slack : Nat
  top : Nat
  hyst : Nat
  powered : Bool
  locks : Word
  deriving DecidableEq, Repr

/-- The COUPLING entry at a position of a table's words (R109). -/
def couplingEntryOf (x : Table) (i : Nat) : CouplingEntry :=
  let w := x.word 10 i
  { channel := min 63 (w 1), sub := min 3 (w 2), kind := couplingKindOf (w 3), crit := clampNat 1 3 (w 4),
    slack := w 5, top := w 6, hyst := min 500 (w 7), powered := decide (w 8 ≠ 0),
    locks := x.words.getD (i * 10 + 9) 0 }

/-- The COUPLING entry of an index as the supervisor uses it (R109). -/
def State.couplingEntry (s : State) (i : Fin 48) : CouplingEntry := couplingEntryOf (s.table .coupling) i.val

/-- Whether a coupling's entry is enabled in the READY COUPLING table (R108). -/
def State.couplingEnabled (s : State) (i : Fin 48) : Bool :=
  s.reaches .coupling i.val && decide (s.entryWord .coupling i.val 0 ≠ 0)

/-- Whether a condition is in a coupling's interlock set (R109). -/
def CouplingEntry.hasLock (e : CouplingEntry) (c : Interlock) : Bool := e.locks.getLsbD (interlockCode c)

/-! ### METER entries (R148) -/

/-- A METER entry with its fields clamped as used (R148). -/
structure MeterEntry where
  channel : Nat
  k : Nat
  isReturn : Bool
  engine : Fin 4
  tank : Option (Fin 8)
  alpha : Nat
  maxDelta : Nat
  deriving DecidableEq, Repr

/-- The METER entry of an index as the fuel unit uses it (R148). -/
def State.meterEntry (s : State) (i : Fin 8) : MeterEntry :=
  let w := s.entryWord .meter i.val
  { channel := min 63 (w 1), k := max 100 (w 2), isReturn := decide (w 3 = 1),
    engine := ⟨min 3 (w 4), by omega⟩, tank := index? 8 (w 5), alpha := min 2000 (w 6),
    maxDelta := max 1 (w 7) }

/-- Whether a meter is in service (R147). -/
def State.meterInService (s : State) (i : Fin 8) : Bool :=
  s.reaches .meter i.val && decide (s.entryWord .meter i.val 0 ≠ 0)

/-! ### TANK entries (R167) -/

/-- A TANK entry with its fields clamped as used, in litres and kg per cubic metre (R167). -/
structure TankEntry where
  capacity : Nat
  reserve : Nat
  density : Nat
  loaded : Nat
  deriving DecidableEq, Repr

/-- The TANK entry of an index as the fuel unit uses it (R167). -/
def State.tankEntry (s : State) (t : Fin 8) : TankEntry :=
  let x := s.table .tank
  let capacity := min Config.tankMax (x.word2 7 t.val 0)
  { capacity := capacity, reserve := min capacity (x.word2 7 t.val 2),
    density := clampNat 700 1100 (x.word 7 t.val 4), loaded := min capacity (x.word2 7 t.val 5) }

/-! ### ROUTE entries (R189, R205) -/

/-- A ROUTE entry as the classifier uses it. `none` for the ingress or the kind is ANY. -/
structure RouteEntry where
  ingress : Option Port
  kind : Option Nat
  low : Nat
  high : Nat
  drop : Bool
  egress : BitVec 3
  cls : LowClass
  deriving DecidableEq, Repr

/-- A port from its code, none for any other code (R202). -/
def portOfNum : Nat → Option Port
  | 0 => some .w
  | 1 => some .m
  | 2 => some .t
  | _ => none

/-- The ROUTE entry of an index (R189, R205). -/
def State.routeEntry (s : State) (i : Nat) : RouteEntry :=
  let w := s.entryWord .route i
  { ingress := portOfNum (w 0), kind := if w 1 ≤ 31 then some (w 1) else none, low := w 2, high := w 3,
    drop := decide (w 4 = 1), egress := BitVec.ofNat 3 (w 5), cls := if w 6 = 1 then .bulk else .routine }

end Sys2Proof.Machine
end

