-- ==== Sys2Proof/Machine/Ops.lean ====
section
/-! DEFINITION. The named operations over the port units: the three transmit queues, the arbiter, link loss
(chapter 1), and the carried-remainder step that the engine ramp and the rudders share (R55, R56, R92). -/

namespace Sys2Proof.Machine

/-! ### The arbiter (R15 to R17) -/

/-- What the port units and the notice unit read of the rest of the part: the arbiter's patience, the management
channel and NOTICE_ENABLE. -/
structure Env where
  patienceRoutine : Nat
  patienceBulk : Nat
  channel : BitVec 6
  enable : BitVec 20
  deriving DecidableEq, Repr

/-- The environment of the port units and the notice unit, as it stands. -/
def State.env (s : State) : Env :=
  { patienceRoutine := s.params.patienceRoutine, patienceBulk := s.params.patienceBulk,
    channel := s.channel, enable := s.params.noticeEnable }

/-- Whether any of the three queues holds a frame. -/
def PortUnit.holdsFrame (p : PortUnit) : Bool :=
  !(p.urgent.isEmpty && p.routine.isEmpty && p.bulk.isEmpty)

/-- The class the arbiter chooses: the first of the five tests that holds (R17). -/
def PortUnit.chosen (e : Env) (p : PortUnit) : QueueClass :=
  if !p.routine.isEmpty && decide (e.patienceRoutine ≤ p.passedRoutine) then .routine
  else if !p.bulk.isEmpty && decide (e.patienceBulk ≤ p.passedBulk) then .bulk
  else if !p.urgent.isEmpty then .urgent
  else if !p.routine.isEmpty then .routine
  else .bulk

/-- A passed-over count that rises by one when its class holds a frame (R15, R17). -/
def passedOver (queue : List Frame) (n : Nat) : Nat :=
  if queue.isEmpty then n else satAdd Config.passedMax n 1

/-- A grant to a class: its head frame is in flight, its own count returns to 0, and the counts of the lower
classes passed over rise (R17). -/
def PortUnit.granted (c : QueueClass) (p : PortUnit) : PortUnit :=
  match c with
  | .urgent =>
    { p with inFlight := some .urgent, passedRoutine := passedOver p.routine p.passedRoutine,
             passedBulk := passedOver p.bulk p.passedBulk }
  | .routine =>
    { p with inFlight := some .routine, passedRoutine := 0, passedBulk := passedOver p.bulk p.passedBulk }
  | .bulk => { p with inFlight := some .bulk, passedBulk := 0 }

/-- The arbiter's decision: a grant when the port is UP, no frame is in flight and some queue holds a frame
(R16). -/
def PortUnit.grant (e : Env) (p : PortUnit) : PortUnit :=
  if p.link = .up ∧ p.inFlight = none ∧ p.holdsFrame = true then p.granted (p.chosen e) else p

/-! ### Joining, replacing and leaving a queue (R11 to R14, R19) -/

/-- The queue of a class. -/
def PortUnit.lowQueue (p : PortUnit) : LowClass → List Frame
  | .routine => p.routine
  | .bulk => p.bulk

/-- The capacity of a class (R10). -/
def lowCap : LowClass → Nat
  | .routine => Config.routineCap
  | .bulk => Config.bulkCap

/-- The port unit with a frame at the tail of its ROUTINE or BULK queue. -/
def PortUnit.pushLow (c : LowClass) (f : Frame) (p : PortUnit) : PortUnit :=
  match c with
  | .routine => { p with routine := p.routine ++ [f] }
  | .bulk => { p with bulk := p.bulk ++ [f] }

/-- A frame offered to ROUTINE or BULK joins at the tail when the port is UP and the queue is below its capacity;
`none` when it is discarded (R11, R21). -/
def PortUnit.joinLow (e : Env) (c : LowClass) (f : Frame) (p : PortUnit) : Option PortUnit :=
  if p.link = .up ∧ (p.lowQueue c).length < lowCap c then some ((p.pushLow c f).grant e) else none

/-- The frame of URGENT that is in flight, as a list of at most one. -/
def PortUnit.urgentInFlight (p : PortUnit) : List Frame :=
  if p.inFlight = some .urgent then p.urgent.take 1 else []

/-- The waiting frames of URGENT: all but the one in flight (R12). -/
def PortUnit.urgentWaiting (p : PortUnit) : List Frame :=
  if p.inFlight = some .urgent then p.urgent.drop 1 else p.urgent

/-- The list with each frame of the new frame's key replaced by it, in place (R12, R13). -/
def replaceKey (f : Frame) (l : List Frame) : List Frame :=
  l.map fun g => if keyOf g = keyOf f then f else g

/-- A frame offered to URGENT replaces the waiting frame of its key in place, or joins at the tail when the queue
holds fewer than 16 frames; `none` when it is discarded (R12, R13, R21). -/
def PortUnit.joinUrgent (e : Env) (f : Frame) (p : PortUnit) : Option PortUnit :=
  if p.urgentWaiting.any (fun g => keyOf g = keyOf f) then
    some { p with urgent := p.urgentInFlight ++ replaceKey f p.urgentWaiting }
  else if p.urgent.length < Config.urgentCap then
    some (({ p with urgent := p.urgent ++ [f] } : PortUnit).grant e)
  else none

/-- Withdraw the waiting frame of a key (R14). -/
def PortUnit.withdraw (key : BitVec 11 × Option Byte) (p : PortUnit) : PortUnit :=
  { p with urgent := p.urgentInFlight ++ p.urgentWaiting.filter fun g => decide (keyOf g ≠ key) }

/-- The frame in flight leaves its queue (R19); nothing when none is in flight. -/
def PortUnit.sent (p : PortUnit) : PortUnit :=
  match p.inFlight with
  | none => p
  | some .urgent => { p with urgent := p.urgent.drop 1, inFlight := none }
  | some .routine => { p with routine := p.routine.drop 1, inFlight := none }
  | some .bulk => { p with bulk := p.bulk.drop 1, inFlight := none }

/-- URGENT after a link loss: the abandoned frame is removed when a waiting frame has its key, and stays at the
head as a waiting frame otherwise (R20, step 1). -/
def PortUnit.urgentAfterLoss (p : PortUnit) : List Frame :=
  match p.urgentInFlight with
  | [] => p.urgent
  | f :: _ =>
    if p.urgentWaiting.any (fun g => keyOf g = keyOf f) then p.urgentWaiting else p.urgent

/-- How many frames a link loss discards: all of ROUTINE and BULK, the one in flight included (R20, steps 1, 2). -/
def PortUnit.lostFrames (p : PortUnit) : Nat := p.routine.length + p.bulk.length

/-- The port unit after a link loss, before its notices (R20). -/
def PortUnit.lost (p : PortUnit) : PortUnit :=
  { p with link := .down, urgent := p.urgentAfterLoss, routine := [], bulk := [], inFlight := none,
           passedRoutine := 0, passedBulk := 0,
           frameLoss := satAdd Config.counterMax p.frameLoss p.lostFrames }

/-- The port unit with its FRAME_LOSS counter one higher (R11). -/
def PortUnit.countLoss (p : PortUnit) : PortUnit :=
  { p with frameLoss := satAdd Config.counterMax p.frameLoss 1 }

/-- The port unit with its MALFORMED counter one higher (R4). -/
def PortUnit.countMalformed (p : PortUnit) : PortUnit :=
  { p with malformed := satAdd Config.counterMax p.malformed 1 }

/-! ### The three port units -/

/-- The port unit of a port. -/
def Comms.port (c : Comms) : Port → PortUnit
  | .w => c.w
  | .m => c.m
  | .t => c.t

/-- The port units with one replaced. -/
def Comms.setPort (p : Port) (u : PortUnit) (c : Comms) : Comms :=
  match p with
  | .w => { c with w := u }
  | .m => { c with m := u }
  | .t => { c with t := u }

/-- The state with one port unit changed. -/
def State.onPort (p : Port) (f : PortUnit → PortUnit) (s : State) : State :=
  { s with comms := s.comms.setPort p (f (s.comms.port p)) }

/-- A waiting URGENT frame of a key is withdrawn from a port (R14). -/
def State.withdraw (p : Port) (key : BitVec 11 × Option Byte) (s : State) : State :=
  s.onPort p (PortUnit.withdraw key)

/-! ### The carried-remainder step (R55, R56, R92) -/

/-- A position with its carried remainder and the direction of its last stepping. -/
structure Ramped where
  pos : Int
  rem : Nat
  dir : RampDir
  deriving DecidableEq, Repr

/-- One stepping toward a target at the rate of its direction over an elapsed interval in milliseconds
(R55, R56, R92). -/
def rampStep (target : Int) (upRate downRate elapsed : Nat) (r : Ramped) : Ramped :=
  if target = r.pos then { pos := r.pos, rem := 0, dir := .none }
  else
    let dir : RampDir := if r.pos < target then .rising else .falling
    let rate := if r.pos < target then upRate else downRate
    let kept := if dir = r.dir then r.rem else 0
    let acc := kept + rate * elapsed
    let step := acc / 1000
    if (target - r.pos).natAbs ≤ step then { pos := target, rem := 0, dir := .none }
    else { pos := if r.pos < target then r.pos + step else r.pos - step, rem := acc % 1000, dir := dir }

end Sys2Proof.Machine
end

