-- ==== Sys2Proof/Machine/Flags.lean ====
section
/-! DEFINITION. The notice flags and the frames offered by the units: raising a notice (R196), offering a frame to
a queue with the loss it may cause (R11, R12, R21), and the REPLY of a management command (R193). -/

namespace Sys2Proof.Machine

/-- A NOTICE frame: kind 14 on the management channel, carrying the notice kind and the index (R196, R201). -/
def noticeFrame (e : Env) (k : NoticeKind) (i : Nat) : Frame :=
  frameOf 14 e.channel.toNat [BitVec.ofNat 8 (noticeNum k).val, BitVec.ofNat 8 i]

/-- The notice of a kind. -/
def Comms.notice (c : Comms) (k : NoticeKind) : Notice := c.notices[noticeNum k]

/-- Set a kind's flag and last index, with no frame (R196, steps 1 and 2). -/
def Comms.record (k : NoticeKind) (i : Nat) (c : Comms) : Comms :=
  { c with notices := put c.notices (noticeNum k) { flag := true, last := i } }

/-- Whether a raise of a kind builds a frame: its flag is clear and the kind is enabled (R196). -/
def Comms.tells (e : Env) (k : NoticeKind) (c : Comms) : Bool :=
  !(c.notice k).flag && e.enable.getLsbD (noticeNum k).val

/-- A frame joins a ROUTINE or BULK queue, or `none` (R11). -/
def Comms.joinLow (e : Env) (p : Port) (k : LowClass) (f : Frame) (c : Comms) : Option Comms :=
  ((c.port p).joinLow e k f).map fun u => c.setPort p u

/-- The FRAME_LOSS counter of a port rises by one. -/
def Comms.countLoss (p : Port) (c : Comms) : Comms := c.setPort p (c.port p).countLoss

/-- Raise FRAME_LOSS for a port. Its own NOTICE, when refused, is counted on W and raises FRAME_LOSS once more,
which finds the flag set (R11, R196). -/
def Comms.raiseFrameLoss (e : Env) (p : Port) (c : Comms) : Comms :=
  let d := c.record .frameLoss (portNum p)
  if c.tells e .frameLoss then
    match d.joinLow e .w .bulk (noticeFrame e .frameLoss (portNum p)) with
    | some d' => d'
    | none => (d.countLoss .w).record .frameLoss 0
  else d

/-- A frame discarded by a port: the counter rises and FRAME_LOSS is raised with the port number (R11, R12). -/
def Comms.discard (e : Env) (p : Port) (c : Comms) : Comms := (c.countLoss p).raiseFrameLoss e p

/-- Raise a notice of a kind with an index: last index, flag, and a NOTICE frame when the flag rises while the kind
is enabled (R196). -/
def Comms.raise (e : Env) (k : NoticeKind) (i : Nat) (c : Comms) : Comms :=
  let d := c.record k i
  if c.tells e k then
    match d.joinLow e .w .bulk (noticeFrame e k i) with
    | some d' => d'
    | none => d.discard e .w
  else d

/-- Offer a frame to a ROUTINE or BULK queue (R11, R21). -/
def Comms.offerLow (e : Env) (p : Port) (k : LowClass) (f : Frame) (c : Comms) : Comms :=
  match c.joinLow e p k f with
  | some d => d
  | none => c.discard e p

/-- Offer a frame to a URGENT queue (R12, R21). -/
def Comms.offerUrgent (e : Env) (p : Port) (f : Frame) (c : Comms) : Comms :=
  match (c.port p).joinUrgent e f with
  | some u => c.setPort p u
  | none => c.discard e p

/-- Raise a notice (R196). -/
def State.raise (k : NoticeKind) (i : Nat) (s : State) : State :=
  { s with comms := s.comms.raise s.env k i }

/-- Offer a frame to a ROUTINE or BULK queue of a port (R11, R21). -/
def State.offerLow (p : Port) (k : LowClass) (f : Frame) (s : State) : State :=
  { s with comms := s.comms.offerLow s.env p k f }

/-- Offer a frame to the URGENT queue of a port (R12, R21). -/
def State.offerUrgent (p : Port) (f : Frame) (s : State) : State :=
  { s with comms := s.comms.offerUrgent s.env p f }

/-! ### Management commands (R6, R193) -/

/-- The REPLY frame of a tag, status and results: kind 16 on the management channel (R193, R201). -/
def replyFrame (ch : BitVec 6) (tag : Byte) (st : Status) (results : List Byte) : Frame :=
  frameOf 16 ch.toNat (tag :: statusCode st :: results)

/-- What carrying a command out leaves: the state, the status and the results of the REPLY. -/
structure Answer where
  state : State
  status : Status
  results : List Byte
  deriving DecidableEq, Repr

/-- An answer that changes nothing. -/
def State.says (s : State) (st : Status) (results : List Byte) : Answer :=
  { state := s, status := st, results := results }

/-- Whether a port takes no frame: the part is in restart or the port is DOWN (R1, R20, R198, R199). -/
def State.deaf (s : State) (p : Port) : Bool :=
  s.restart.isSome || decide ((s.comms.port p).link = .down)

/-- An MGMT frame on the management channel as one event: carried out first, the REPLY built last and offered to
W's BULK queue, which loses and counts it when it is full or DOWN (R193); discarded while a restart is pending (R199),
and not met while one is held (R198, R199). -/
def State.managed (tag : Byte) (body : State → Answer) (s : State) : State :=
  if s.restart.isSome || s.replyWait.isSome then s
  else (body s).state.offerLow .w .bulk (replyFrame s.channel tag (body s).status (body s).results)

/-- A command that requires `n` argument bytes answers BAD_VALUE to shorter arguments and carries nothing out
(R193). -/
def State.needs (n : Nat) (args : List Byte) (s : State) (body : Answer) : Answer :=
  if args.length < n then s.says .badValue [] else body

end Sys2Proof.Machine
end

