-- ==== Sys2Proof/Machine/Forwarding.lean ====
section
/-! DEFINITION. The frame classifier's handling of a received frame around its owning unit: the length check (R4)
and the route table with the port defaults (R7 to R9). -/

namespace Sys2Proof.Machine

/-- Whether a ROUTE entry matches a frame received on a port (R7). -/
def RouteEntry.matchesFrame (x : RouteEntry) (p : Port) (f : Frame) : Bool :=
  (x.ingress.isNone || decide (x.ingress = some p)) &&
  (x.kind.isNone || decide (x.kind = some (kindOf f))) &&
  decide (x.low ≤ channelOf f) && decide (channelOf f ≤ x.high)

/-- The default of a port (R9). -/
def Params.defaultOf (x : Params) : Port → PortDefault
  | .w => x.defaultW
  | .m => x.defaultM
  | .t => x.defaultT

/-- The first matching entry of a READY ROUTE table (R7). -/
def State.routeFor (s : State) (p : Port) (f : Frame) : Option RouteEntry :=
  if s.ready .route then
    (((List.range (s.table .route).count).map s.routeEntry).find? fun x => x.matchesFrame p f)
  else none

/-- Place one copy on each port of an egress set other than the receiving port, in the order W, M, T
(R8; log entry 5). -/
def State.copies (p : Port) (egress : BitVec 3) (c : LowClass) (f : Frame) (s : State) : State :=
  [Port.w, Port.m, Port.t].foldl (fun s q =>
    if q ≠ p ∧ egress.getLsbD (portNum q) = true then s.offerLow q c f else s) s

/-- A received frame is offered to the route table (R7 to R9). -/
def State.forward (p : Port) (f : Frame) (s : State) : State :=
  match s.routeFor p f with
  | some x => if x.drop then s else s.copies p x.egress x.cls f
  | none => s.copies p (s.params.defaultOf p).egress (s.params.defaultOf p).cls f

/-- A frame of an interpreted kind on its port: counted when malformed, else offered to its unit; then offered to
the route table (R2, R4, R7; log entry 4). Nothing while the port takes no frame (log entry 3). -/
def State.frameEvent (p : Port) (least : Nat) (unit : State → State) (f : Frame) (s : State) : State :=
  if s.deaf p then s
  else ((if f.data.length < least then s.onPort p PortUnit.countMalformed else unit s)).forward p f

end Sys2Proof.Machine
end

