-- ==== Sys2Proof/Machine/Supervision.lean ====
section
/-! DEFINITION. The shared operations of the coupling supervisor, the release controller and the bow gating: what
one event on a coupling record, an interlock condition or the COUPLING table brings about (chapters 5.6, 6, 7). -/

namespace Sys2Proof.Machine

/-! ### Actuator records (R97, R102) -/

/-- The state with an actuator record stored. -/
def State.withActuator (j : Fin 8) (a : Actuator) (s : State) : State :=
  { s with steer := { s.steer with actuators := put s.steer.actuators j (some a) } }

/-- Enter ALIGN with an output kept or set (R97). -/
def Actuator.align (out : Int) (a : Actuator) : Actuator :=
  { a with state := .align, target := 0, output := out, remainder := 0, ramp := .none, count := 0 }

/-- Enter GATED (R102). -/
def Actuator.gate (a : Actuator) : Actuator :=
  { a with state := .gated, target := 0, output := 0, remainder := 0, ramp := .none, count := 0 }

/-- Whether the coupling that a BOW actuator names is MADE (R102). -/
def State.bowMade (s : State) (j : Fin 8) : Bool :=
  match s.coup.records[(s.actuatorEntry j).bow] with
  | some r => decide (r.state = .made)
  | none => false

/-- The coalescing key of the BOW-SET frames of a channel (R12). -/
def bowKey (ch : Nat) : BitVec 11 × Option Byte := keyOf (frameOf 3 ch [])

/-- Bring one BOW actuator in step with its bow coupling: gated, its waiting BOW-SET withdrawn, when the coupling is
not MADE (R102); out of GATED into ALIGN with output 0 when it is MADE (R103). -/
def State.gateActuator (j : Fin 8) (s : State) : State :=
  match s.steer.actuators[j] with
  | none => s
  | some a =>
    if (s.actuatorEntry j).kind ≠ .bow then s
    else if s.bowMade j then
      if a.state = .gated then s.withActuator j (a.align 0) else s
    else if a.state = .gated then s
    else (s.withActuator j a.gate).withdraw .t (bowKey (s.actuatorEntry j).channel)

/-- The steering unit is told of a change of a coupling record into or out of MADE, or of the records' creation or
end (R102, R103, R127; log entry 11). -/
def State.tellSteering (s : State) : State :=
  (List.finRange 8).foldl (fun s j => s.gateActuator j) s

/-- BOW_ACTIVE: some BOW actuator record has a non-zero output (R104). -/
def State.bowActive (s : State) : Bool :=
  (List.finRange 8).any fun j =>
    match s.steer.actuators[j] with
    | some a => decide ((s.actuatorEntry j).kind = .bow) && decide (a.output ≠ 0)
    | none => false

/-! ### Coupling records, candidate and derate level (R123, R124) -/

/-- The state with a coupling record stored. -/
def State.withCoupling (i : Fin 48) (r : CouplingRecord) (s : State) : State :=
  { s with coup := { s.coup with records := put s.coup.records i (some r) } }

/-- The contribution of a state with a criticality (R123). -/
def contribution (crit : Nat) : CouplingState → Nat
  | .made => 0
  | .released => 0
  | .unknown => crit
  | .slack => crit
  | .stale => crit
  | .releasing => crit
  | .overload => min 3 (crit + 1)
  | .parted => 3

/-- The contribution of a coupling index: 0 without a record (R123). -/
def State.contributionOf (s : State) (i : Fin 48) : Nat :=
  match s.coup.records[i] with
  | some r => contribution (s.couplingEntry i).crit r.state
  | none => 0

/-- The candidate: the greatest contribution, or 0 when there is no record (R123). -/
def State.candidate (s : State) : Nat :=
  (List.finRange 48).foldl (fun n i => max n (s.contributionOf i)) 0

/-- The candidate has been recomputed: raise the level to it, or zero the hold counter when equal (R124). -/
def State.applyDerate (s : State) : State :=
  if s.coup.level < s.candidate then
    ({ s with coup := { s.coup with level := s.candidate, hold := 0 } } : State).raise .derateRaised
      s.candidate
  else if s.candidate = s.coup.level then { s with coup := { s.coup with hold := 0 } }
  else s

/-- After a change of a record's state: the candidate, then the steering unit (R123, R124, R127). -/
def State.afterChange (s : State) : State := s.applyDerate.tellSteering

/-! ### Classification (R118, R119) -/

/-- Classification of an engaged tension, from the state the record is in (R118). -/
def classify (e : CouplingEntry) (st : CouplingState) (t : Nat) : CouplingState :=
  if e.top < t then .overload
  else if st = .overload ∧ e.top < t + e.hyst then .overload
  else if t < e.slack then .slack
  else if st = .slack ∧ t < e.slack + e.hyst then .slack
  else .made

/-- Give a record its classified state; COUPLING_OVERLOAD when it enters OVERLOAD from another state (R118). -/
def State.classified (i : Fin 48) (r : CouplingRecord) (s : State) : State :=
  let st := classify (s.couplingEntry i) r.state r.tension
  let s' := s.withCoupling i { r with state := st }
  if st = .overload ∧ r.state ≠ .overload then s'.raise .couplingOverload i.val else s'

/-- A record becomes PARTED, and COUPLING_PARTED is raised (R116). -/
def State.parted (i : Fin 48) (r : CouplingRecord) (s : State) : State :=
  (s.withCoupling i { r with state := .parted }).raise .couplingParted i.val

/-- Classification from the last report, at the end of a release that did not complete (R119). -/
def State.classifyLast (i : Fin 48) (s : State) : State :=
  match s.coup.records[i] with
  | none => s
  | some r => if r.pinOpen then s.parted i r else s.classified i r

/-! ### Interlocks, abort (R134, R139, R140) -/

/-- Whether a gear state is an engaged one: AHEAD, ASTERN or SLOWING (section 4.2 of 04). -/
def Gear.inGear : Gear → Bool
  | .ahead => true
  | .astern => true
  | .slowing => true
  | .neutral => false
  | .dwell => false

/-- ENGINES_ENGAGED: some engine channel is in an engaged state (R71, R134). -/
def State.enginesEngaged (s : State) : Bool :=
  (List.finRange 4).any fun e =>
    match s.prop.channels[e] with
    | some ch => ch.gear.inGear
    | none => false

/-- HELM_OFF_CENTRE: the magnitude of the helm demand exceeds CENTRE_WINDOW (R134). -/
def State.helmOffCentre (s : State) : Bool := decide (s.params.centreWindow < s.station.helm.natAbs)

/-- UNDER_LOAD: the coupling's own last tension is at or above its own slack threshold (R134). -/
def State.underLoad (s : State) (i : Fin 48) : Bool :=
  match s.coup.records[i] with
  | some r => decide ((s.couplingEntry i).slack ≤ r.tension)
  | none => false

/-- Whether an interlock condition holds, for a coupling (R134). -/
def State.lockHolds (s : State) (i : Fin 48) : Interlock → Bool
  | .enginesEngaged => s.enginesEngaged
  | .helmOffCentre => s.helmOffCentre
  | .bowActive => s.bowActive
  | .underLoad => s.underLoad i

/-- The first condition of a coupling's interlock set that holds, in the interlock order (R134, R135). -/
def State.firstLock (s : State) (i : Fin 48) : Option Interlock :=
  interlockOrder.find? fun c => (s.couplingEntry i).hasLock c && s.lockHolds i c

/-- A COUPLE-CMD for a coupling point: 1 OPEN or 2 HOLD (R143; section 12.1 of 12). -/
def State.coupleCmd (s : State) (i : Fin 48) (command : Byte) : Frame :=
  frameOf 4 (s.couplingEntry i).channel [BitVec.ofNat 8 (s.couplingEntry i).sub, command]

/-- The command byte of OPEN. -/
def cmdOpen : Byte := 1

/-- The command byte of HOLD. -/
def cmdHold : Byte := 2

/-- The release timer is stopped. -/
def State.stopRelease (s : State) : State := { s with coup := { s.coup with releaseTimer := none } }

/-- The release slot becomes EMPTY. -/
def State.emptySlot (s : State) : State := { s with coup := { s.coup with slot := none } }

/-- An abort of the release of a coupling, in the order of R140. -/
def State.abortRelease (i : Fin 48) (s : State) : State :=
  ((((s.offerUrgent .t (s.coupleCmd i cmdHold)).stopRelease).classifyLast i).emptySlot.afterChange).raise
    .releaseAborted i.val

/-- The release controller is told that a condition may have come about: it aborts the release when the condition is
in the releasing coupling's interlock set and now holds (R139). -/
def State.checkLock (c : Interlock) (s : State) : State :=
  match s.coup.slot with
  | none => s
  | some i => if (s.couplingEntry i).hasLock c && s.lockHolds i c then s.abortRelease i else s

/-- `after` is `before` with an actuator's output changed: a change of BOW_ACTIVE from false to true is told to the
release controller within the event (R104, R139). -/
def State.watchBow (before after : State) : State :=
  if !before.bowActive && after.bowActive then after.checkLock .bowActive else after

end Sys2Proof.Machine
end

