-- ==== Sys2Proof/Machine/Coupling.lean ====
section
/-! DEFINITION. The coupling supervisor's and the release controller's events: COUPLE-REPORT (R115 to R117), the poll
timer (R111 to R113, R125), the release timer (R141), COUPLE-RELEASE (R135, R136), COUPLE-DETACH (R121),
COUPLE-ATTACH (R122), POLL-NOW (R114) and the COUPLING table's changes (R129, R130). -/

namespace Sys2Proof.Machine

/-! ### COUPLE-REPORT -/

/-- The record a report is matched to: the lowest index with the frame's channel and sub-index (R115). -/
def State.couplingFor (s : State) (ch sub : Nat) : Option (Fin 48) :=
  (List.finRange 48).find? fun i => (s.coup.records[i]).isSome &&
    decide ((s.couplingEntry i).channel = ch ∧ (s.couplingEntry i).sub = sub)

/-- The completion of a release by a pin-open report, in the order of R138. -/
def State.completeRelease (i : Fin 48) (r : CouplingRecord) (s : State) : State :=
  (((s.withCoupling i { r with state := .released }).stopRelease).emptySlot.afterChange).raise
    .releaseDone i.val

/-- A report with pin DISENGAGED, stored as `r` (R116). -/
def State.reportOpen (i : Fin 48) (r : CouplingRecord) (s : State) : State :=
  match r.state with
  | .releasing => s.completeRelease i r
  | .released => s
  | .parted => s
  | .unknown => (s.parted i r).afterChange
  | .made => (s.parted i r).afterChange
  | .slack => (s.parted i r).afterChange
  | .overload => (s.parted i r).afterChange
  | .stale => (s.parted i r).afterChange

/-- The classification of an engaged report, and what follows a change of state (R117, R118, R123). -/
def State.reclassified (i : Fin 48) (r : CouplingRecord) (s : State) : State :=
  if classify (s.couplingEntry i) r.state r.tension = r.state then s
  else (s.classified i r).afterChange

/-- A report with pin ENGAGED, stored as `r` (R117). -/
def State.reportEngaged (i : Fin 48) (r : CouplingRecord) (s : State) : State :=
  match r.state with
  | .released => s
  | .releasing => s.checkLock .underLoad
  | .unknown => s.reclassified i r
  | .made => s.reclassified i r
  | .slack => s.reclassified i r
  | .overload => s.reclassified i r
  | .stale => s.reclassified i r
  | .parted => s.reclassified i r

/-- A report taken by a record: age 0, tension and pin stored, then the state (R115 to R117). -/
def State.reportCoupling (i : Fin 48) (tension : Nat) (pinOpen : Bool) (s : State) : State :=
  match s.coup.records[i] with
  | none => s
  | some r0 =>
    let r := { r0 with tension := tension, pinOpen := pinOpen, age := 0 }
    if pinOpen then (s.withCoupling i r).reportOpen i r else (s.withCoupling i r).reportEngaged i r

/-- A COUPLE-REPORT offered to the supervisor (R115). -/
def State.takeCoupleReport (ch : Nat) (data : List Byte) (s : State) : State :=
  match s.couplingFor ch (min 3 (byteAt data 0)) with
  | none => s
  | some i => s.reportCoupling i (min 4000 (u16At data 1)) (decide (byteAt data 3 ≠ 0))

/-- COUPLE_REPORT (R115): the frame as one event, with its forwarding. -/
def execCoupleReport (ch : BitVec 6) (data : List Byte) (s : State) : Host.Outcome State Fault Refusal :=
  .next (s.frameEvent .t 4 (State.takeCoupleReport ch.toNat data) (frameOf 9 ch.toNat data))

/-! ### The poll timer -/

/-- Whether a coupling index has a record in the polled set (R112). -/
def State.polled (s : State) (i : Fin 48) : Bool :=
  match s.coup.records[i] with
  | some r => decide (r.state ≠ .released)
  | none => false

/-- A COUPLE-POLL for a coupling point: kind 12, its sub-index (R112; 12.1 of 12). -/
def State.couplePoll (s : State) (i : Fin 48) : Frame :=
  frameOf 12 (s.couplingEntry i).channel [BitVec.ofNat 8 (s.couplingEntry i).sub]

/-- The indexes in the order the walk examines them: from the walk pointer, wrapping after the last index within the
declared count (R112). -/
def State.walkOrder (s : State) : List Nat :=
  let n := (s.table .coupling).count
  (List.range n).map fun k => (s.coup.walk + k) % n

/-- The record the walk finds (R112). -/
def State.walkFinds (s : State) : Option (Fin 48) :=
  s.walkOrder.findSome? fun k =>
    match index? 48 k with
    | some i => if s.polled i then some i else none
    | none => none

/-- The poll step (R112). -/
def State.pollStep (s : State) : State :=
  match s.walkFinds with
  | none => s
  | some i =>
    let s1 := s.offerLow .t .routine (s.couplePoll i)
    { s1 with coup := { s1.coup with walk := (i.val + 1) % (s.table .coupling).count } }

/-- A record after the raise of its age (R113). -/
def CouplingRecord.aged (r : CouplingRecord) : CouplingRecord :=
  if r.state = .released then r else { r with age := satAdd Config.ageMax r.age 1 }

/-- Whether a record passes to STALE: MADE, SLACK or OVERLOAD with an age of at least STALE_LIMIT (R113). -/
def CouplingRecord.goesStale (limit : Nat) (r : CouplingRecord) : Bool :=
  decide (r.state = .made ∨ r.state = .slack ∨ r.state = .overload) && decide (limit ≤ r.age)

/-- One record after the raise of the ages: STALE with its notice, each change being a state change for the candidate
(R113, R123; log entry 7). -/
def State.staleStep (s : State) (i : Fin 48) : State :=
  match s.coup.records[i] with
  | none => s
  | some r =>
    if r.goesStale s.params.staleLimit then
      ((s.withCoupling i { r with state := .stale }).raise .couplingStale i.val).afterChange
    else s

/-- The ages of all records of the polled set rise by one (R113). -/
def State.raiseAges (s : State) : State :=
  { s with coup := { s.coup with records := remap s.coup.records fun _ r => r.map CouplingRecord.aged } }

/-- The ageing step (R113). -/
def State.ageStep (s : State) : State := (List.finRange 48).foldl State.staleStep s.raiseAges

/-- The hold step of the derate level (R125). -/
def State.holdStep (s : State) : State :=
  if s.candidate < s.coup.level then
    let n := satAdd Config.counterMax s.coup.hold 1
    if s.params.derateHold ≤ n then
      ({ s with coup := { s.coup with level := s.candidate, hold := 0 } } : State).raise .derateLowered
        s.candidate
    else { s with coup := { s.coup with hold := n } }
  else s

/-- A poll-timer expiry: the timer reloads; with COUPLING READY the three steps follow (R110, R111). -/
def State.pollExpiry (s : State) : State :=
  let s0 : State := { s with coup := { s.coup with pollTimer := s.params.pollInterval } }
  if s.ready .coupling then s0.pollStep.ageStep.holdStep else s0

/-- POLL_TIMER_EXPIRY (R111). No timer runs while the part is in restart (R198, R199). -/
def execPollTimerExpiry (s : State) : Host.Outcome State Fault Refusal :=
  .next (if s.restart.isSome then s else s.pollExpiry)

/-! ### Release timer -/

/-- The failure of a release, in the order of R141. -/
def State.failRelease (i : Fin 48) (s : State) : State :=
  ((((s.offerUrgent .t (s.coupleCmd i cmdHold)).stopRelease).classifyLast i).emptySlot.afterChange).raise
    .releaseFailed i.val

/-- RELEASE_TIMER_EXPIRY (R141). A stopped timer has no expiry (log entry 3). -/
def execReleaseTimerExpiry (s : State) : Host.Outcome State Fault Refusal :=
  .next (if s.restart.isSome || s.coup.releaseTimer.isNone then s
    else match s.coup.slot with
      | none => s.stopRelease
      | some i => s.failRelease i)

/-! ### Management commands on couplings -/

/-- The coupling index of an argument byte, and its record. -/
def State.couplingNamed (s : State) (v : Nat) : Option (Fin 48 × CouplingRecord) :=
  match index? 48 v with
  | none => none
  | some i => (s.coup.records[i]).map fun r => (i, r)

/-- The effects of an accepted COUPLE-RELEASE, in the order of R136. -/
def State.acceptRelease (i : Fin 48) (r : CouplingRecord) (s : State) : State :=
  let s1 := ({ s with coup := { s.coup with slot := some i } } : State).withCoupling i
    { r with state := .releasing }
  let s2 := s1.offerUrgent .t (s1.coupleCmd i cmdOpen)
  State.afterChange { s2 with coup := { s2.coup with releaseTimer := some s.params.releaseTimeout } }

/-- The rule of COUPLE-RELEASE (R135). -/
def State.requestRelease (args : List Byte) (s : State) : Answer :=
  s.needs 1 args <|
    match s.couplingNamed (byteAt args 0) with
    | none => s.says .badIndex []
    | some (i, r) =>
      if (s.couplingEntry i).powered = false then s.says .notPowered []
      else match s.coup.slot with
        | some k => s.says .busy [BitVec.ofNat 8 k.val]
        | none =>
          if r.state ≠ .made ∧ r.state ≠ .slack then s.says .badState [couplingStateCode r.state]
          else match s.firstLock i with
            | some c => s.says .interlock [BitVec.ofNat 8 (interlockCode c)]
            | none => (s.acceptRelease i r).says .ok []

/-- COUPLE_RELEASE (R135). -/
def execCoupleRelease (tag : Byte) (args : List Byte) (s : State) : Host.Outcome State Fault Refusal :=
  .next (s.managed tag (State.requestRelease args))

/-- The rule of COUPLE-DETACH (R121). -/
def State.detachCoupling (args : List Byte) (s : State) : Answer :=
  s.needs 1 args <|
    match s.couplingNamed (byteAt args 0) with
    | none => s.says .badIndex []
    | some (i, r) =>
      if r.state = .releasing then s.says .busy []
      else if r.state = .released then s.says .ok []
      else (s.withCoupling i { r with state := .released }).afterChange.says .ok []

/-- COUPLE_DETACH (R121). -/
def execCoupleDetach (tag : Byte) (args : List Byte) (s : State) : Host.Outcome State Fault Refusal :=
  .next (s.managed tag (State.detachCoupling args))

/-- The rule of COUPLE-ATTACH (R122). -/
def State.attachCoupling (args : List Byte) (s : State) : Answer :=
  s.needs 1 args <|
    match s.couplingNamed (byteAt args 0) with
    | none => s.says .badIndex []
    | some (i, r) =>
      if r.state ≠ .released then s.says .badState []
      else (s.withCoupling i { r with state := .unknown, age := 0 }).afterChange.says .ok []

/-- COUPLE_ATTACH (R122). -/
def execCoupleAttach (tag : Byte) (args : List Byte) (s : State) : Host.Outcome State Fault Refusal :=
  .next (s.managed tag (State.attachCoupling args))

/-- The rule of POLL-NOW (R114). -/
def State.pollOne (args : List Byte) (s : State) : Answer :=
  s.needs 1 args <|
    match s.couplingNamed (byteAt args 0) with
    | none => s.says .badIndex []
    | some (i, r) =>
      if r.state = .released then s.says .badState []
      else (s.offerLow .t .routine (s.couplePoll i)).says .ok []

/-- POLL_NOW (R114). -/
def execPollNow (tag : Byte) (args : List Byte) (s : State) : Host.Outcome State Fault Refusal :=
  .next (s.managed tag (State.pollOne args))

/-! ### The COUPLING table (R129, R130) -/

/-- A coupling record that comes into being (R130). -/
def newCoupling : CouplingRecord := { state := .unknown, tension := 0, pinOpen := false, age := 0 }

/-- The COUPLING table becomes READY (R130). -/
def State.createCouplings (s : State) : State :=
  State.afterChange { s with coup := { s.coup with
    records := Vector.ofFn fun i => if s.couplingEnabled i then some newCoupling else none
    walk := 0, hold := 0 } }

/-- Every coupling record ceases, and the steering unit is told (R129). -/
def State.dropCouplings (s : State) : State :=
  State.tellSteering { s with coup := { s.coup with
    records := Vector.replicate 48 none, walk := 0, hold := 0 } }

end Sys2Proof.Machine
end

