-- ==== Sys2Proof/Machine/Fuel.lean ====
section
/-! DEFINITION. The fuel unit: FLOW (chapter 8), debits and credits, BUNKER and TRANSFER, and the snapshot buffer
(chapter 9). -/

namespace Sys2Proof.Machine

/-! ### Tanks (R168 to R170) -/

/-- The state with a tank record stored. -/
def State.withTank (t : Fin 8) (r : TankRecord) (s : State) : State :=
  { s with fuel := { s.fuel with tanks := put s.fuel.tanks t (some r) } }

/-- The capacity of a tank in standard millilitres (R167). -/
def State.tankCapacity (s : State) (t : Fin 8) : Nat := (s.tankEntry t).capacity * 1000

/-- A debit of a tank record, before the reserve evaluation (R168). -/
def TankRecord.debit (d : Nat) (r : TankRecord) : TankRecord :=
  { r with debits := r.debits + d, balance := r.balance - d, shortfall := r.shortfall + (d - r.balance) }

/-- A credit of a tank record, before the reserve evaluation (R169). -/
def TankRecord.credit (capacity c : Nat) (r : TankRecord) : TankRecord :=
  { r with credits := r.credits + c, balance := min capacity (r.balance + c),
           excess := r.excess + (r.balance + c - capacity) }

/-- Whether a balance is below the tank's reserve (R170). -/
def State.inReserve (s : State) (t : Fin 8) (balance : Nat) : Bool :=
  decide (balance < (s.tankEntry t).reserve * 1000)

/-- Store a tank record with its reserve state evaluated; TANK_RESERVE when it becomes true (R170). -/
def State.evaluated (t : Fin 8) (r : TankRecord) (s : State) : State :=
  let low := s.inReserve t r.balance
  let s' := s.withTank t { r with reserve := low }
  if low && !r.reserve then s'.raise .tankReserve t.val else s'

/-- A debit of `d` standard millilitres applied to a tank (R168); a debit of 0 is none. -/
def State.debitTank (t : Fin 8) (d : Nat) (s : State) : State :=
  match s.fuel.tanks[t] with
  | none => s
  | some r =>
    if d = 0 then s
    else if r.balance < d then
      ((s.withTank t (r.debit d)).raise .tankShortfall t.val).evaluated t (r.debit d)
    else s.evaluated t (r.debit d)

/-- A credit of `c` standard millilitres applied to a tank (R169); a credit of 0 changes nothing. -/
def State.creditTank (t : Fin 8) (c : Nat) (s : State) : State :=
  match s.fuel.tanks[t] with
  | none => s
  | some r => if c = 0 then s else s.evaluated t (r.credit (s.tankCapacity t) c)

/-! ### FLOW (R149 to R160) -/

/-- The state with a meter record stored. -/
def State.withMeter (i : Fin 8) (r : MeterRecord) (s : State) : State :=
  { s with fuel := { s.fuel with meters := put s.fuel.meters i r } }

/-- The meter a FLOW belongs to: the meter in service of lowest index with the frame's channel (R149). -/
def State.meterFor (s : State) (ch : Nat) : Option (Fin 8) :=
  (List.finRange 8).find? fun i => s.meterInService i && decide ((s.meterEntry i).channel = ch)

/-- The temperature factor F (R154). -/
def tempFactor (alpha : Nat) (t : Int) : Nat :=
  (1000000 - ((alpha : Int) * (t - 150)).tdiv 10).toNat

/-- The meter record after the conversion of an accounted delta (R153 to R155). -/
def MeterRecord.converted (x : MeterEntry) (delta : Nat) (r : MeterRecord) : MeterRecord :=
  let n := delta * 100000 + r.ra
  let v := n / x.k * tempFactor x.alpha r.temp + r.rb
  { r with ra := n % x.k, rb := v % 1000000, amount := v / 1000000 }

/-- Book a volume to the engine total of a meter's role (R156). -/
def State.bookEngine (x : MeterEntry) (std : Nat) (s : State) : State :=
  let e := s.fuel.engines[x.engine]
  let e' : EngineTotals :=
    if x.isReturn then { e with ret := satAdd Config.volumeMax e.ret std }
    else { e with supply := satAdd Config.volumeMax e.supply std }
  { s with fuel := { s.fuel with engines := put s.fuel.engines x.engine e' } }

/-- Book a volume to the unassigned accumulator (R158). -/
def State.bookUnassigned (x : MeterEntry) (std : Nat) (s : State) : State :=
  let u : Int := if x.isReturn then s.fuel.unassigned + std else s.fuel.unassigned - std
  { s with fuel := { s.fuel with unassigned := clampInt (-(Config.volumeMax : Int)) Config.volumeMax u } }

/-- The tank a meter's store booking goes to, if any (R157). -/
def State.storeTank (s : State) (x : MeterEntry) : Option (Fin 8) :=
  match x.tank with
  | none => none
  | some t => if s.reaches .tank t.val then some t else none

/-- The store booking of an accounted delta (R157). -/
def State.bookStore (x : MeterEntry) (std : Nat) (s : State) : State :=
  match s.storeTank x with
  | some t => if x.isReturn then s.creditTank t std else s.debitTank t std
  | none => s.bookUnassigned x std

/-- The last reported rpm of an engine as handed to the fuel unit: 0 without a channel (R77). -/
def State.rpmHanded (s : State) (e : Fin 4) : Nat :=
  match s.prop.channels[e] with
  | some ch => ch.repRpm
  | none => 0

/-- The flow-without-run check of a SUPPLY meter (R160). -/
def State.checkRun (x : MeterEntry) (std : Nat) (s : State) : State :=
  if x.isReturn = false ∧ s.params.runFlowLimit ≤ std ∧ s.rpmHanded x.engine = 0 then
    s.raise .flowWithoutRun x.engine.val
  else s

/-- The delta of a count after a baseline, modulo 65536 (R151). -/
def flowDelta (count baseline : Nat) : Nat := (count + 65536 - baseline) % 65536

/-- A FLOW taken by a meter record (R150 to R152, R159). -/
def State.meterFlow (i : Fin 8) (count : Nat) (temp : Int) (s : State) : State :=
  let x := s.meterEntry i
  let r := s.fuel.meters[i]
  let r1 := { r with baseline := some count, temp := temp }
  match r.baseline with
  | none => s.withMeter i r1
  | some b =>
    if x.maxDelta < flowDelta count b then
      (s.withMeter i { r1 with glitches := satAdd Config.counterMax r1.glitches 1 }).raise .meterGlitch i.val
    else
      let r2 := r1.converted x (flowDelta count b)
      (((s.withMeter i r2).bookEngine x r2.amount).bookStore x r2.amount).checkRun x r2.amount

/-- A FLOW offered to the fuel unit (R149). -/
def State.takeFlow (ch : Nat) (data : List Byte) (s : State) : State :=
  match s.meterFor ch with
  | none => s
  | some i => s.meterFlow i (u16At data 0) (clampInt (-200) 1000 (s16At data 2))

/-! ### BUNKER and TRANSFER (R172, R173) -/

/-- The excess of a tank's record, 0 without one. -/
def State.tankExcess (s : State) (t : Fin 8) : Nat :=
  match s.fuel.tanks[t] with
  | some r => r.excess
  | none => 0

/-- The balance of a tank's record, 0 without one. -/
def State.tankBalance (s : State) (t : Fin 8) : Nat :=
  match s.fuel.tanks[t] with
  | some r => r.balance
  | none => 0

/-- The tank record's index named by an argument byte. -/
def State.tankNamed (s : State) (v : Nat) : Option (Fin 8) :=
  match index? 8 v with
  | none => none
  | some t => if (s.fuel.tanks[t]).isSome then some t else none

/-- The rule of BUNKER (R172). -/
def State.bunkerTank (args : List Byte) (s : State) : Answer :=
  s.needs 4 args <|
    if s.ready .tank = false then s.says .badState []
    else match s.tankNamed (byteAt args 0) with
      | none => s.says .badIndex []
      | some t =>
        let s' := s.creditTank t (u24At args 1 * 1000)
        s'.says .ok (fieldOf 3 (s'.tankBalance t / 1000) ++
          fieldOf 3 ((s'.tankExcess t - s.tankExcess t) / 1000))

/-- BUNKER (R172). -/
def execBunker (tag : Byte) (args : List Byte) (s : State) : Host.Outcome State Fault Refusal :=
  .next (s.managed tag (State.bunkerTank args))

/-- The rule of TRANSFER (R173). -/
def State.transferFuel (args : List Byte) (s : State) : Answer :=
  s.needs 5 args <|
    if s.ready .tank = false then s.says .badState []
    else match s.tankNamed (byteAt args 0), s.tankNamed (byteAt args 1) with
      | some a, some b =>
        if a = b then s.says .badValue []
        else
          let moved := min (u24At args 2 * 1000) (s.tankBalance a)
          let s' := (s.debitTank a moved).creditTank b moved
          s'.says .ok (fieldOf 3 (moved / 1000) ++
            fieldOf 3 ((s'.tankExcess b - s.tankExcess b) / 1000))
      | _, _ => s.says .badIndex []

/-- TRANSFER (R173). -/
def execTransfer (tag : Byte) (args : List Byte) (s : State) : Host.Outcome State Fault Refusal :=
  .next (s.managed tag (State.transferFuel args))

/-! ### The snapshot buffer (R177 to R181) -/

/-- The feed tank of an engine for the net mass: the entry need not be enabled (R179). -/
def State.massTank (s : State) (e : Fin 4) : Option (Fin 8) :=
  if s.reaches .engine e.val then
    match (s.engineEntry e).feedTank with
    | none => none
    | some t => if s.reaches .tank t.val then some t else none
  else none

/-- The net mass of an engine in kg (R178, R179). -/
def State.netMass (s : State) (e : Fin 4) : Nat :=
  match s.massTank e with
  | none => 0
  | some t =>
    min Config.litresMax
      ((s.fuel.engines[e].supply - s.fuel.engines[e].ret) * (s.tankEntry t).density / 1000000)

/-- The sum of the shortfall totals of all tank records. -/
def State.shortfallSum (s : State) : Nat :=
  (List.finRange 8).foldl (fun n t => n + match s.fuel.tanks[t] with
    | some r => r.shortfall
    | none => 0) 0

/-- The fuel account as a capture copies it (R178). -/
def State.captured (s : State) (seq : Nat) (why : CaptureReason) : Capture :=
  { sequence := seq, reason := why
    tanksPresent := Vector.ofFn fun t => (s.fuel.tanks[t]).isSome
    supply := Vector.ofFn fun e => min Config.litresMax (s.fuel.engines[e].supply / 1000)
    ret := Vector.ofFn fun e => min Config.litresMax (s.fuel.engines[e].ret / 1000)
    mass := Vector.ofFn fun e => s.netMass e
    balance := Vector.ofFn fun t => s.tankBalance t / 1000
    unassigned := clampInt (-8388608) 8388607 (s.fuel.unassigned.tdiv 1000)
    shortfall := min Config.litresMax (s.shortfallSum / 1000) }

/-- A capture: the sequence rises, the account is copied, and a HELD buffer is renewed (R178, R180). -/
def State.capture (why : CaptureReason) (s : State) : State :=
  let seq := (s.fuel.captureSeq + 1) % 65536
  let held := s.fuel.snapshot.isSome
  let x : Snapshot := { capture := s.captured seq why, renewal := held }
  let s' : State := { s with fuel := { s.fuel with captureSeq := seq, snapshot := some x } }
  if held then s'.raise .snapshotRenewed (seq % 256) else s'

/-- The rule of SNAP-CAPTURE (R178, R180). -/
def State.snapCapture (_args : List Byte) (s : State) : Answer :=
  (s.capture .mgmt).says .ok
    (fieldOf 2 (s.capture .mgmt).fuel.captureSeq ++ [flagByte s.fuel.snapshot.isSome])

/-- SNAP_CAPTURE (R178). -/
def execSnapCapture (tag : Byte) (args : List Byte) (s : State) : Host.Outcome State Fault Refusal :=
  .next (s.managed tag (State.snapCapture args))

/-- A set of eight as a byte: bit i for index i. -/
def setByte (v : Vector Bool 8) : Nat :=
  (List.finRange 8).foldl (fun n i => n + if v[i] then 2 ^ i.val else 0) 0

/-- The two 24-bit values of a part (R181, R203). -/
def Snapshot.part (x : Snapshot) : Nat → List Byte
  | 0 => fieldOf 3 x.capture.sequence ++ [BitVec.ofNat 8 (reasonCode x.capture.reason), flagByte x.renewal,
      BitVec.ofNat 8 (setByte x.capture.tanksPresent)]
  | 1 => fieldOf 3 x.capture.supply[0] ++ fieldOf 3 x.capture.ret[0]
  | 2 => fieldOf 3 x.capture.supply[1] ++ fieldOf 3 x.capture.ret[1]
  | 3 => fieldOf 3 x.capture.supply[2] ++ fieldOf 3 x.capture.ret[2]
  | 4 => fieldOf 3 x.capture.supply[3] ++ fieldOf 3 x.capture.ret[3]
  | 5 => fieldOf 3 x.capture.mass[0] ++ fieldOf 3 x.capture.mass[1]
  | 6 => fieldOf 3 x.capture.mass[2] ++ fieldOf 3 x.capture.mass[3]
  | 7 => fieldOf 3 x.capture.balance[0] ++ fieldOf 3 x.capture.balance[1]
  | 8 => fieldOf 3 x.capture.balance[2] ++ fieldOf 3 x.capture.balance[3]
  | 9 => fieldOf 3 x.capture.balance[4] ++ fieldOf 3 x.capture.balance[5]
  | 10 => fieldOf 3 x.capture.balance[6] ++ fieldOf 3 x.capture.balance[7]
  | _ => signedField 3 x.capture.unassigned ++ fieldOf 3 x.capture.shortfall

/-- The state with the snapshot buffer set. -/
def State.withSnapshot (x : Option Snapshot) (s : State) : State :=
  { s with fuel := { s.fuel with snapshot := x } }

/-- The rule of SNAP-READ (R181). -/
def State.snapRead (args : List Byte) (s : State) : Answer :=
  s.needs 1 args <|
    if 11 < byteAt args 0 then s.says .badIndex []
    else match s.fuel.snapshot with
      | none => s.says .empty []
      | some x =>
        if byteAt args 0 < 11 then s.says .ok (x.part (byteAt args 0))
        else if x.renewal then (s.withSnapshot (some { x with renewal := false })).says .renewed (x.part 11)
        else (s.withSnapshot none).says .ok (x.part 11)

/-- SNAP_READ (R181). -/
def execSnapRead (tag : Byte) (args : List Byte) (s : State) : Host.Outcome State Fault Refusal :=
  .next (s.managed tag (State.snapRead args))

/-! ### Coming into being (R175) -/

/-- A tank record with a loaded balance, out of reserve until evaluated (R175). -/
def newTank (loaded : Nat) : TankRecord :=
  { balance := loaded * 1000, credits := 0, debits := 0, shortfall := 0, excess := 0, reserve := false }

/-- The record of a tank index when the TANK table becomes READY (R175). -/
def State.tankAtLoad (s : State) (t : Fin 8) : Option TankRecord :=
  if s.reaches .tank t.val then some (newTank (s.tankEntry t).loaded) else none

/-- A record comes into being for each entry within the declared count of a READY TANK table, each evaluated for
reserve in index order (R175). -/
def State.createTanks (s : State) : State :=
  (List.finRange 8).foldl (fun s t =>
      if s.reaches .tank t.val then s.evaluated t (newTank (s.tankEntry t).loaded) else s)
    { s with fuel := { s.fuel with tanks := Vector.ofFn s.tankAtLoad } }

/-- Every tank record ceases (R175). -/
def State.dropTanks (s : State) : State :=
  { s with fuel := { s.fuel with tanks := Vector.replicate 8 none } }

/-- The METER table becomes READY: every baseline becomes empty, and the remainders 0 (R162). -/
def State.clearBaselines (s : State) : State :=
  { s with fuel := { s.fuel with meters := remap s.fuel.meters fun _ r =>
      { r with baseline := none, ra := 0, rb := 0 } } }

end Sys2Proof.Machine
end

