-- ==== Sys2Proof/Machine/Propulsion.lean ====
section
/-! DEFINITION. The propulsion unit: the setpoint computation of a ramp-timer expiry (chapter 3), gear, freshness
and synchronization (chapter 4), GOV-REPORT (R76) and the timer expiries of an engine channel. -/

namespace Sys2Proof.Machine

/-- The state with an engine channel stored. -/
def State.withChannel (e : Fin 4) (ch : EngineChannel) (s : State) : State :=
  { s with prop := { s.prop with channels := put s.prop.channels e (some ch) } }

/-- Apply a change to an engine's channel, if it has one. -/
def State.onChannel (e : Fin 4) (f : EngineChannel → EngineChannel) (s : State) : State :=
  match s.prop.channels[e] with
  | none => s
  | some ch => s.withChannel e (f ch)

/-! ### Gear (R65 to R70) -/

/-- Enter DWELL: the gear opens and the dwell timer is loaded; a load of 0 expires within the event (R69). -/
def EngineChannel.enterDwell (load : Nat) (ch : EngineChannel) : EngineChannel :=
  if load = 0 then { ch with gear := .neutral, engaged := .neutral, dwellTimer := none }
  else { ch with gear := .dwell, engaged := .neutral, dwellTimer := some load }

/-- The engaged gear state of a direction. -/
def gearOf : Direction → Gear
  | .neutral => .neutral
  | .ahead => .ahead
  | .astern => .astern

/-- The gear step: at most one transition, from the demanded direction and C of the previous expiry (R65 to R68). -/
def EngineChannel.gearStep (idle dwellLoad : Nat) (dir : Direction) (ch : EngineChannel) : EngineChannel :=
  match ch.gear with
  | .dwell => ch
  | .neutral =>
    if dir = .neutral then ch else { ch with gear := gearOf dir, engaged := dir, c := idle, a := 0 }
  | .ahead =>
    if dir = .ahead then ch
    else if idle < ch.c then { ch with gear := .slowing, engaged := .ahead } else ch.enterDwell dwellLoad
  | .astern =>
    if dir = .astern then ch
    else if idle < ch.c then { ch with gear := .slowing, engaged := .astern } else ch.enterDwell dwellLoad
  | .slowing =>
    if dir = ch.engaged then { ch with gear := gearOf dir }
    else if idle < ch.c then ch else ch.enterDwell dwellLoad

/-! ### Stages 1 to 6 (R46 to R57) -/

/-- The lever value of stage 1: the lever demand, or 0 when IDLED (R46). -/
def EngineChannel.leverUsed (demand : Int) (ch : EngineChannel) : Int :=
  if ch.fresh = .idled then 0 else demand

/-- The demanded direction of a lever value and deadband (R46). -/
def demandedDir (dz : Nat) (l : Int) : Direction :=
  if (dz : Int) < l then .ahead else if l < -(dz : Int) then .astern else .neutral

/-- The detent quantization of stage 2 (R47). -/
def quantized (d : Nat) (l : Int) : Nat := l.natAbs / d * d

/-- The detent the propulsion unit reads: that of the command station (R30). -/
def State.detentInUse (s : State) : Nat := s.stationDetent s.station.command

/-- The raw value of an available curve at a lever magnitude (R49). -/
def State.curveRaw (s : State) (c m : Nat) : Nat :=
  if 16 ≤ m / 64 then s.curvePoint c 16
  else s.curvePoint c (m / 64)
    + (s.curvePoint c (m / 64 + 1) - s.curvePoint c (m / 64)) * (m % 64) / 64

/-- The raw value of stage 3: from the curve, or the last raw when the curve is not available (R49, R50). -/
def State.rawValue (s : State) (c m lastRaw : Nat) : Nat :=
  if s.curveAvailable c then s.curveRaw c m else lastRaw

/-- The effective derate percentage of a level (R51). -/
def Params.deratePct (p : Params) (level : Nat) : Nat :=
  match level with
  | 0 => 100
  | 1 => min p.deratePct1 100
  | 2 => min p.deratePct2 (min p.deratePct1 100)
  | _ => min p.deratePct3 (min p.deratePct2 (min p.deratePct1 100))

/-- Whether the fuel cap of an engine is the reserve share: its feed tank has a record that is in reserve (R52). -/
def State.fuelCapOn (s : State) (e : Fin 4) : Bool :=
  match (s.engineEntry e).feedTank with
  | none => false
  | some t =>
    s.reaches .tank t.val &&
      match s.fuel.tanks[t] with
      | some r => r.reserve
      | none => false

/-- The cap of a maximum: the lowest of Max, derate cap and fuel cap, raised to idle (R51 to R53). -/
def capOf (idle top pct reservePct : Nat) (fuel : Bool) : Nat :=
  max idle (min top (min (top * pct / 100) (if fuel then top * reservePct / 100 else top)))

/-- The cap of stage 4 by the gear state; `none` when no cap direction applies (R53). -/
def State.capFor (s : State) (e : Fin 4) (level : Nat) (ch : EngineChannel) : Option Nat :=
  let x := s.engineEntry e
  let dir : Direction :=
    match ch.gear with
    | .ahead => .ahead
    | .astern => .astern
    | .slowing => ch.engaged
    | .neutral => .neutral
    | .dwell => .neutral
  match dir with
  | .neutral => none
  | .ahead =>
    some (capOf x.idle x.aheadMax (s.params.deratePct level) s.params.reservePct (s.fuelCapOn e))
  | .astern =>
    some (capOf x.idle x.asternMax (s.params.deratePct level) s.params.reservePct (s.fuelCapOn e))

/-- Stages 2 to 6 of one channel, for the gear state the gear step has left; `level` is the derate level and
`elapsed` the elapsed interval of the expiry (R47 to R57). -/
def State.setpoint (s : State) (e : Fin 4) (level elapsed : Nat) (l : Int) (dir : Direction)
    (ch : EngineChannel) : EngineChannel :=
  let x := s.engineEntry e
  let running := decide (ch.gear = .ahead ∨ ch.gear = .astern)
  let curve := if ch.gear = .astern then x.asternCurve else x.aheadCurve
  let raw := if running then s.rawValue curve (quantized s.detentInUse l) ch.lastRaw else ch.lastRaw
  let cap := (s.capFor e level ch).getD x.idle
  let target := if running then max x.idle (min raw cap) else x.idle
  let cut := decide (cap < ch.c)
  let r := rampStep target x.upRate x.downRate elapsed
    { pos := if cut then (cap : Int) else (ch.c : Int), rem := if cut then 0 else ch.a, dir := ch.ramp }
  { ch with c := r.pos.toNat, a := r.rem, ramp := r.dir, lastRaw := raw, lastTarget := target,
            lastCap := cap, lastD := level, lastDir := dir,
            lastDetent := if running then s.detentInUse else 1,
            fuelCap := (s.capFor e level ch).isSome && s.fuelCapOn e }

/-- An engine's channel has left ASTERN: the target of every FLANKING actuator naming the engine is 0 (R90). -/
def State.zeroFlanking (e : Fin 4) (s : State) : State :=
  { s with steer := { s.steer with actuators := remap s.steer.actuators fun j a =>
      match a with
      | none => none
      | some a =>
        if (s.actuatorEntry j).kind = .flanking ∧ (s.actuatorEntry j).engine = e then
          some { a with target := 0 }
        else some a } }

/-- What the gear step tells the neighbours: the steering unit when the channel leaves ASTERN (R90), the release
controller when it moves into AHEAD, ASTERN or SLOWING (R71, R139). -/
def State.gearMoved (e : Fin 4) (was now : Gear) (s : State) : State :=
  let s1 := if was = .astern ∧ now ≠ .astern then s.zeroFlanking e else s
  if now ≠ was ∧ now.inGear = true then s1.checkLock .enginesEngaged else s1

/-- Pass 1 of a ramp-timer expiry for one channel (R42). -/
def State.passOne (level elapsed : Nat) (s : State) (e : Fin 4) : State :=
  match s.prop.channels[e] with
  | none => s
  | some ch =>
    let l := ch.leverUsed s.station.lever[e]
    let dir := demandedDir (s.engineEntry e).deadband l
    let g := ch.gearStep (s.engineEntry e).idle s.params.reversalDwell dir
    let s1 := (s.withChannel e g).gearMoved e ch.gear g.gear
    s1.withChannel e (s1.setpoint e level elapsed l dir g)

/-! ### Synchronization (R78 to R80) -/

/-- The sync active indication of a group. -/
def State.sync (s : State) (g : Nat) : Option Direction :=
  if g = 1 then s.prop.sync1 else if g = 2 then s.prop.sync2 else none

/-- Set the sync active indication of a group. -/
def State.setSync (g : Nat) (x : Option Direction) (s : State) : State :=
  if g = 1 then { s with prop := { s.prop with sync1 := x } }
  else { s with prop := { s.prop with sync2 := x } }

/-- The members of a group, in index order (R78). -/
def State.members (s : State) (g : Nat) : List (Fin 4 × EngineChannel) :=
  (List.finRange 4).filterMap fun e =>
    match s.prop.channels[e] with
    | some ch => if (s.engineEntry e).group = g then some (e, ch) else none
    | none => none

/-- The gear in which a group is active: at least two members, all in the same one of AHEAD and ASTERN, with equal
last targets, all LIVE (R79). -/
def State.groupActive (s : State) (g : Nat) : Option Direction :=
  match s.members g with
  | (_, lead) :: follower :: rest =>
    let dir : Option Direction :=
      match lead.gear with
      | .ahead => some .ahead
      | .astern => some .astern
      | .neutral => none
      | .slowing => none
      | .dwell => none
    if decide (lead.fresh = .live) && (follower :: rest).all fun m =>
        decide (m.2.gear = lead.gear ∧ m.2.lastTarget = lead.lastTarget ∧ m.2.fresh = .live)
    then dir else none
  | _ => none

/-- The lead of a group: its lowest-indexed member (R78). -/
def State.lead (s : State) (g : Nat) : Option (Fin 4 × EngineChannel) := (s.members g).head?

/-- Pass 2 of a ramp-timer expiry for one group: indication and trims (R79). -/
def State.syncTest (g : Nat) (s : State) : State :=
  let active := s.groupActive g
  let lim : Int := (s.params.syncLimit : Int)
  (s.members g).foldl (fun t m =>
      t.withChannel m.1 { m.2 with trim :=
        if active.isNone ∨ (s.lead g).map (·.1) = some m.1 then 0 else clampInt (-lim) lim m.2.trim })
    (s.setSync g active)

/-! ### Stages 7 and 8 (R58, R59) -/

/-- The output rpm of stage 7: C + S clamped to the range from idle to the cap (R58). -/
def EngineChannel.outputRpm (idle : Nat) (ch : EngineChannel) : Nat :=
  (clampInt idle ch.lastCap ((ch.c : Int) + ch.trim)).toNat

/-- The gear field of a GOV-SET (R59). -/
def EngineChannel.gearSent (ch : EngineChannel) : Direction :=
  match ch.gear with
  | .ahead => .ahead
  | .astern => .astern
  | .slowing => ch.engaged
  | .neutral => .neutral
  | .dwell => .neutral

/-- The GOV-SET of a channel: kind 1, rpm in two bytes, gear (R59; section 12.1 of 12). -/
def govSet (governor rpm : Nat) (gear : Direction) : Frame :=
  frameOf 1 governor (fieldOf 2 rpm ++ [directionCode gear])

/-- Pass 3 of a ramp-timer expiry for one channel: output and emission (R42, R58, R59). -/
def State.passThree (s : State) (e : Fin 4) : State :=
  match s.prop.channels[e] with
  | none => s
  | some ch =>
    let out := ch.outputRpm (s.engineEntry e).idle
    (s.withChannel e { ch with lastOutput := out }).offerUrgent .m
      (govSet (s.engineEntry e).channel out ch.gearSent)

/-- A ramp-timer expiry: the timer reloads, then the three passes (R41, R42). The derate level is that at the start
of the expiry (log entry 8). -/
def State.rampExpiry (s : State) : State :=
  let s0 : State := { s with prop := { s.prop with rampTimer := s.params.propInterval } }
  let s1 := (List.finRange 4).foldl (State.passOne s.coup.level s.prop.rampTimer) s0
  let s2 := (s1.syncTest 1).syncTest 2
  (List.finRange 4).foldl State.passThree s2

/-- RAMP_TIMER_EXPIRY (R42). No timer runs while the part is in restart (R198, R199). -/
def execRampTimerExpiry (s : State) : Host.Outcome State Fault Refusal :=
  .next (if s.restart.isSome then s else s.rampExpiry)

/-! ### Freshness (R72 to R74) and dwell (R70) -/

/-- A lever demand has been accepted for an engine (R72). -/
def State.leverAccepted (e : Fin 4) (s : State) : State :=
  s.onChannel e fun ch =>
    { ch with fresh := .live, freshTimer := some s.params.leverTimeout, holdTimer := none }

/-- DWELL_TIMER_EXPIRY (R70): a channel in DWELL passes to NEUTRAL. A stopped timer has no expiry (log entry 3). -/
def execDwellTimerExpiry (engine : Fin 4) (s : State) : Host.Outcome State Fault Refusal :=
  .next (if s.restart.isSome then s
    else s.onChannel engine fun ch =>
      if ch.dwellTimer.isNone then ch
      else if ch.gear = .dwell then { ch with gear := .neutral, dwellTimer := none }
      else { ch with dwellTimer := none })

/-- What the expiry of a running freshness timer makes of a channel (R73). -/
def EngineChannel.hold (load : Nat) (ch : EngineChannel) : EngineChannel :=
  if load = 0 then { ch with fresh := .idled, freshTimer := none, holdTimer := none }
  else { ch with fresh := .holding, freshTimer := none, holdTimer := some load }

/-- FRESHNESS_TIMER_EXPIRY (R73): LIVE passes to HOLDING and LEVER_LOST is raised; with LEVER_HOLD 0 the channel
passes on to IDLED within the event. -/
def execFreshnessTimerExpiry (engine : Fin 4) (s : State) : Host.Outcome State Fault Refusal :=
  .next (if s.restart.isSome then s
    else match s.prop.channels[engine] with
      | none => s
      | some ch =>
        if ch.freshTimer.isNone then s
        else (s.withChannel engine (ch.hold s.params.leverHold)).raise .leverLost engine.val)

/-- HOLD_TIMER_EXPIRY (R74): HOLDING passes to IDLED. -/
def execHoldTimerExpiry (engine : Fin 4) (s : State) : Host.Outcome State Fault Refusal :=
  .next (if s.restart.isSome then s
    else s.onChannel engine fun ch =>
      if ch.holdTimer.isNone then ch else { ch with fresh := .idled, holdTimer := none })

/-! ### GOV-REPORT (R76, R80) -/

/-- The trim step of a follower's report (R80). -/
def State.trimStep (s : State) (e : Fin 4) : State :=
  let g := (s.engineEntry e).group
  match s.prop.channels[e], s.lead g, s.sync g with
  | some ch, some (le, lead), some dir =>
    if le ≠ e ∧ lead.reported = true ∧ ch.reported = true ∧ lead.repGear = dir ∧ ch.repGear = dir then
      let moved : Int :=
        if ch.repRpm < lead.repRpm then ch.trim + s.params.syncStep
        else if lead.repRpm < ch.repRpm then ch.trim - s.params.syncStep
        else ch.trim
      s.withChannel e { ch with trim := clampInt (-(s.params.syncLimit : Int)) s.params.syncLimit moved }
    else s
  | _, _, _ => s

/-- Whether an engine's channel takes a GOV-REPORT of a channel number (R76). -/
def State.governedBy (s : State) (ch : Nat) (e : Fin 4) : Bool :=
  (s.prop.channels[e]).isSome && decide ((s.engineEntry e).channel = ch)

/-- A GOV-REPORT offered to the propulsion unit: stored by every matching channel, then the trim step of each in
index order (R76). -/
def State.takeGovReport (ch : Nat) (data : List Byte) (s : State) : State :=
  let rpm := min 3000 (u16At data 0)
  let gear := gearField (byteAt data 2)
  let took := (List.finRange 4).filter (s.governedBy ch)
  let s1 := took.foldl (fun t e => t.onChannel e fun c =>
    { c with repRpm := rpm, repGear := gear, reported := true }) s
  took.foldl State.trimStep s1

/-! ### Coming into being (R44, R64) -/

/-- A channel that comes into being: DWELL with a full dwell, IDLED, nothing reported (R44, R64, R69). -/
def newChannel (idle dwellLoad : Nat) : EngineChannel :=
  ({ gear := .dwell, engaged := .neutral, dwellTimer := none, fresh := .idled, freshTimer := none,
     holdTimer := none, repRpm := 0, repGear := .neutral, reported := false, trim := 0, c := idle, a := 0,
     ramp := .none, lastRaw := idle, lastTarget := idle, lastCap := idle, lastOutput := idle, lastD := 0,
     lastDir := .neutral, lastDetent := 1, fuelCap := false } : EngineChannel).enterDwell dwellLoad

/-- The channels of the enabled entries of a READY ENGINE table come into being; both indications are cleared
(R64, R83). -/
def State.createChannels (s : State) : State :=
  { s with prop := { s.prop with
      channels := Vector.ofFn fun e =>
        if s.engineEnabled e then some (newChannel (s.engineEntry e).idle s.params.reversalDwell) else none
      sync1 := none, sync2 := none } }

/-- Every channel ceases, and both indications are cleared (R82). -/
def State.dropChannels (s : State) : State :=
  { s with prop := { s.prop with channels := Vector.replicate 4 none, sync1 := none, sync2 := none } }

end Sys2Proof.Machine
end

