-- ==== Sys2Proof/Machine/Steering.lean ====
section
/-! DEFINITION. The steering unit: target and output of a steering-timer expiry (R88 to R93), helm freshness (R95,
R96), alignment and follow-up supervision (R98, R99), and ACTUATOR-RESET (R101). -/

namespace Sys2Proof.Machine

/-- Whether an engine is in ASTERN: it has a channel whose gear state is ASTERN (R90). -/
def State.inAstern (s : State) (e : Fin 4) : Bool :=
  match s.prop.channels[e] with
  | some ch => decide (ch.gear = .astern)
  | none => false

/-- The effective limit at a derate level (R91). -/
def ActuatorEntry.limitAt (level : Nat) (x : ActuatorEntry) : Nat :=
  if 3 ≤ level ∧ x.kind ≠ .bow then x.limit * 2 / 3 else x.limit

/-- The effective rate at a derate level (R91). -/
def ActuatorEntry.rateAt (level : Nat) (x : ActuatorEntry) : Nat :=
  if 2 ≤ level then max 1 (x.rate / 2) else x.rate

/-- The target of a FOLLOWING or FAULT actuator: raw demand, zero forcing, limit (R89). -/
def State.steerTarget (s : State) (level : Nat) (j : Fin 8) : Int :=
  let x := s.actuatorEntry j
  let raw : Int :=
    if x.kind = .flanking ∧ s.inAstern x.engine = false then 0
    else (s.station.helm * x.gain).tdiv 1000
  clampInt (-(x.limitAt level : Int)) (x.limitAt level) raw

/-- The output of a FOLLOWING actuator after one stepping and the cut to the effective limit (R92). -/
def Actuator.stepped (target : Int) (limit rate elapsed : Nat) (a : Actuator) : Actuator :=
  let r := rampStep target rate rate elapsed { pos := a.output, rem := a.remainder, dir := a.ramp }
  if limit < r.pos.natAbs then
    { a with target := target, output := if r.pos < 0 then -(limit : Int) else (limit : Int),
             remainder := 0, ramp := r.dir }
  else { a with target := target, output := r.pos, remainder := r.rem, ramp := r.dir }

/-- The port an actuator's frames leave by (R93). -/
def ActuatorEntry.outPort (x : ActuatorEntry) : Port := if x.kind = .bow then .t else x.port

/-- The frame an actuator's output is sent in: RUD-SET (kind 2) or BOW-SET (kind 3) (R93; 12.1 of 12). -/
def ActuatorEntry.setFrame (x : ActuatorEntry) (output : Int) : Frame :=
  frameOf (if x.kind = .bow then 3 else 2) x.channel (signedField 2 output)

/-- One actuator at a steering-timer expiry (R87, R88, R100). The release controller is told of BOW_ACTIVE at the
stepping, before the frame is offered (log entry 6). -/
def State.steerActuator (level elapsed : Nat) (s : State) (j : Fin 8) : State :=
  match s.steer.actuators[j] with
  | none => s
  | some a =>
    let x := s.actuatorEntry j
    match a.state with
    | .align => s
    | .gated => s
    | .following =>
      let a' := a.stepped (s.steerTarget level j) (x.limitAt level) (x.rateAt level) elapsed
      (State.watchBow s (s.withActuator j a')).offerUrgent x.outPort (x.setFrame a'.output)
    | .fault =>
      (s.withActuator j { a with target := s.steerTarget level j }).offerUrgent x.outPort
        (x.setFrame a.output)

/-- A steering-timer expiry (R88). The derate level is that at the start of the expiry (log entry 8). -/
def State.steeringExpiry (s : State) : State :=
  (List.finRange 8).foldl (State.steerActuator s.coup.level s.steer.steeringTimer)
    { s with steer := { s.steer with steeringTimer := s.params.steerInterval } }

/-- STEERING_TIMER_EXPIRY (R88). No timer runs while the part is in restart (R198, R199). -/
def execSteeringTimerExpiry (s : State) : Host.Outcome State Fault Refusal :=
  .next (if s.restart.isSome then s else s.steeringExpiry)

/-! ### Helm freshness (R95, R96) -/

/-- A helm demand has been accepted (R95). -/
def State.helmAccepted (s : State) : State :=
  { s with steer := { s.steer with helmFresh := .live, helmTimer := some s.params.helmTimeout } }

/-- HELM_TIMER_EXPIRY (R96): LIVE passes to HELD and HELM_LOST is raised with the command station's index. -/
def execHelmTimerExpiry (s : State) : Host.Outcome State Fault Refusal :=
  .next (if s.restart.isSome || s.steer.helmTimer.isNone then s
    else ({ s with steer := { s.steer with helmFresh := .held, helmTimer := none } } : State).raise
      .helmLost s.station.command.val)

/-! ### RUD-REPORT (R98, R99) -/

/-- The first report in ALIGN aligns the actuator (R98). -/
def State.aligned (s : State) (j : Fin 8) (v : Int) (a : Actuator) : Actuator :=
  let x := s.actuatorEntry j
  let out := clampInt (-(x.limit : Int)) x.limit v
  { a with state := .following, output := out,
           target := if x.kind = .flanking ∧ s.inAstern x.engine = false then 0 else out,
           remainder := 0, ramp := .none, count := 0 }

/-- Follow-up supervision of a report in FOLLOWING: the count after the report (R99). -/
def followCountAfter (window : Nat) (v output : Int) (count : Nat) : Nat :=
  if window < (v - output).natAbs then satAdd 255 count 1 else 0

/-- A RUD-REPORT taken by an actuator (R87, R98, R99). -/
def State.reportTo (v : Int) (s : State) (j : Fin 8) : State :=
  match s.steer.actuators[j] with
  | none => s
  | some a0 =>
    let a := { a0 with lastReported := v, reported := true }
    match a.state with
    | .align => State.watchBow s (s.withActuator j (s.aligned j v a))
    | .following =>
      let n := followCountAfter s.params.followWindow v a.output a.count
      if s.params.followCount ≤ n then
        (s.withActuator j { a with count := n, state := .fault }).raise .actuatorFault j.val
      else s.withActuator j { a with count := n }
    | .fault => s.withActuator j a
    | .gated => s.withActuator j a

/-- Whether an actuator's entry names the receiving port and the channel (R99). -/
def State.steeredBy (s : State) (p : Port) (ch : Nat) (j : Fin 8) : Bool :=
  (s.steer.actuators[j]).isSome &&
    decide ((s.actuatorEntry j).port = p ∧ (s.actuatorEntry j).channel = ch)

/-- A RUD-REPORT offered to the steering unit: taken by every matching actuator (R99). That they act in index order, each
on what the ones before it have left, is the model's choice (DESIGN CHOICE, log entry 20). -/
def State.takeRudReport (p : Port) (ch : Nat) (data : List Byte) (s : State) : State :=
  ((List.finRange 8).filter (s.steeredBy p ch)).foldl
    (State.reportTo (clampInt (-1000) 1000 (s16At data 0))) s

/-! ### ACTUATOR-RESET (R101) -/

/-- The rule of ACTUATOR-RESET (R101); a BOW actuator whose coupling is not MADE passes on to GATED (R102). -/
def State.resetActuator (args : List Byte) (s : State) : Answer :=
  s.needs 1 args <|
    match index? 8 (byteAt args 0) with
    | none => s.says .badIndex []
    | some j =>
      match s.steer.actuators[j] with
      | none => s.says .badIndex []
      | some a =>
        if a.state = .fault then ((s.withActuator j (a.align a.output)).gateActuator j).says .ok []
        else s.says .badState []

/-- ACTUATOR_RESET (R101). -/
def execActuatorReset (tag : Byte) (args : List Byte) (s : State) : Host.Outcome State Fault Refusal :=
  .next (s.managed tag (State.resetActuator args))

/-! ### Coming into being and restart (R97, R105, R106) -/

/-- An actuator record that comes into being (R97, R105). -/
def newActuator : Actuator :=
  { state := .align, target := 0, output := 0, remainder := 0, ramp := .none, count := 0,
    lastReported := 0, reported := false }

/-- The records of the enabled entries of a READY ACTUATOR table come into being; the BOW records whose coupling is
not MADE pass to GATED (R105). -/
def State.createActuators (s : State) : State :=
  ({ s with steer := { s.steer with
      actuators := Vector.ofFn fun j => if s.actuatorEnabled j then some newActuator else none } } :
    State).tellSteering

/-- Every actuator record ceases (R105). -/
def State.dropActuators (s : State) : State :=
  { s with steer := { s.steer with actuators := Vector.replicate 8 none } }

end Sys2Proof.Machine
end

