-- ==== Sys2Proof/Machine/Station.lean ====
section
/-! DEFINITION. The station unit: matching and repeat rejection (R26, R27), LEVER, HELM, TAKE and WATCH (R28 to
R36), and what a STATION load makes of the records (R37). -/

namespace Sys2Proof.Machine

/-- The four kinds a station record tracks apart (R25). -/
inductive StationKind where
  | lever | helm | take | watch
  deriving DecidableEq, Repr

/-- The last sequence a record holds for a kind (R25). -/
def StationRecord.seq (r : StationRecord) : StationKind → Option Nat
  | .lever => r.seqLever
  | .helm => r.seqHelm
  | .take => r.seqTake
  | .watch => r.seqWatch

/-- The record with the last sequence of a kind set (R27). -/
def StationRecord.setSeq (k : StationKind) (v : Nat) (r : StationRecord) : StationRecord :=
  match k with
  | .lever => { r with seqLever := some v }
  | .helm => { r with seqHelm := some v }
  | .take => { r with seqTake := some v }
  | .watch => { r with seqWatch := some v }

/-- The state with a station record stored. -/
def State.withStation (i : Fin 4) (r : StationRecord) (s : State) : State :=
  { s with station := { s.station with records := put s.station.records i r } }

/-- The station a channel belongs to: the enabled station of lowest index with that node channel (R26). -/
def State.stationFor (s : State) (ch : Nat) : Option (Fin 4) :=
  (List.finRange 4).find? fun i => s.stationEnabled i && decide (s.stationChannel i = ch)

/-- Matching and repeat rejection of a station frame; `handle` is the kind's handling of an accepted frame from the
station it is given (R26, R27). -/
def State.stationFrame (k : StationKind) (ch : Nat) (data : List Byte)
    (handle : Fin 4 → State → State) (s : State) : State :=
  match s.stationFor ch with
  | none => s
  | some i =>
    let r := s.station.records[i]
    let q := seqField (byteAt data 0)
    if r.seq k = some q then s.withStation i { r with repeats := satAdd Config.counterMax r.repeats 1 }
    else handle i (s.withStation i (r.setSeq k q))

/-- The state with the lever demands set. -/
def State.withLevers (v : Vector Int 4) (s : State) : State :=
  { s with station := { s.station with lever := v } }

/-- The lever values with those of the selected engines replaced (R28). -/
def leversAfter (v : Vector Int 4) (sel : Nat) (pos : Int) : Vector Int 4 :=
  remap v fun e old => if selected sel e then pos else old

/-- The propulsion unit is told of an accepted lever demand for each engine named (R28, R34). -/
def State.leversAccepted (which : Fin 4 → Bool) (s : State) : State :=
  (List.finRange 4).foldl (fun s e => if which e then s.leverAccepted e else s) s

/-- An accepted LEVER frame (R28). -/
def State.leverFrom (data : List Byte) (i : Fin 4) (s : State) : State :=
  let sel := byteAt data 1
  let pos := clampInt (-1024) 1024 (s16At data 2)
  let r := s.station.records[i]
  let s1 := s.withStation i { r with lever := leversAfter r.lever sel pos }
  if i = s.station.command then
    (s1.withLevers (leversAfter s.station.lever sel pos)).leversAccepted (selected sel)
  else s1

/-- LEVER (R28): the frame as one event, with its forwarding. -/
def execLever (ch : BitVec 6) (data : List Byte) (s : State) : Host.Outcome State Fault Refusal :=
  .next (s.frameEvent .w 4 (State.stationFrame .lever ch.toNat data (State.leverFrom data))
    (frameOf 5 ch.toNat data))

/-- The state with the helm demand set. -/
def State.withHelm (v : Int) (s : State) : State := { s with station := { s.station with helm := v } }

/-- An accepted HELM frame (R29). -/
def State.helmFrom (data : List Byte) (i : Fin 4) (s : State) : State :=
  let v := clampInt (-450) 450 (s16At data 1)
  let r := s.station.records[i]
  let s1 := s.withStation i { r with helm := v }
  if i = s.station.command then (s1.withHelm v).helmAccepted.checkLock .helmOffCentre else s1

/-- HELM (R29): the frame as one event, with its forwarding. -/
def execHelm (ch : BitVec 6) (data : List Byte) (s : State) : Host.Outcome State Fault Refusal :=
  .next (s.frameEvent .w 3 (State.stationFrame .helm ch.toNat data (State.helmFrom data))
    (frameOf 6 ch.toNat data))

/-- The match test of a TAKE (R33). -/
def State.takeMatches (s : State) (i : Fin 4) : Bool :=
  let a := s.station.records[i]
  let c := s.station.records[s.station.command]
  ((List.finRange 4).all fun e =>
    !s.engineEnabled e || decide ((a.lever[e] - c.lever[e]).natAbs ≤ s.params.matchWindow)) &&
  decide ((a.helm - c.helm).natAbs ≤ 2 * s.params.centreWindow)

/-- A granted TAKE (R34). -/
def State.grantTake (i : Fin 4) (s : State) : State :=
  let r := s.station.records[i]
  let s1 : State :=
    { s with station := { s.station with command := i, lever := r.lever, helm := r.helm } }
  ((s1.leversAccepted fun _ => true).helmAccepted).raise .stationTransfer i.val

/-- An accepted TAKE frame is ruled on by the first case that holds (R32). -/
def State.takeFrom (data : List Byte) (i : Fin 4) (s : State) : State :=
  if i = s.station.command then s
  else if s.coup.slot.isSome then s
  else if i = 0 ∧ min (byteAt data 1) 1 = 1 then s.grantTake i
  else if s.takeMatches i then s.grantTake i
  else s

/-- TAKE (R32): the frame as one event, with its forwarding. -/
def execTake (ch : BitVec 6) (data : List Byte) (s : State) : Host.Outcome State Fault Refusal :=
  .next (s.frameEvent .w 2 (State.stationFrame .take ch.toNat data (State.takeFrom data))
    (frameOf 10 ch.toNat data))

/-- An accepted WATCH frame: a capture with reason WATCH when it comes from the command station (R36). -/
def State.watchFrom (i : Fin 4) (s : State) : State :=
  if i = s.station.command then s.capture .watch else s

/-- WATCH (R36): the frame as one event, with its forwarding. -/
def execWatch (ch : BitVec 6) (data : List Byte) (s : State) : Host.Outcome State Fault Refusal :=
  .next (s.frameEvent .w 1 (State.stationFrame .watch ch.toNat data State.watchFrom)
    (frameOf 13 ch.toNat data))

/-- GOV_REPORT (R76): the frame as one event, with its forwarding. -/
def execGovReport (ch : BitVec 6) (data : List Byte) (s : State) : Host.Outcome State Fault Refusal :=
  .next (s.frameEvent .m 3 (State.takeGovReport ch.toNat data) (frameOf 7 ch.toNat data))

/-- RUD_REPORT (R99): the frame as one event, with its forwarding. On W the kind is not interpreted (R3). -/
def execRudReport (port : Port) (ch : BitVec 6) (data : List Byte) (s : State) :
    Host.Outcome State Fault Refusal :=
  .next (if port = .w then s.frameEvent .w 0 id (frameOf 8 ch.toNat data)
    else s.frameEvent port 2 (State.takeRudReport port ch.toNat data) (frameOf 8 ch.toNat data))

/-- FLOW (R149): the frame as one event, with its forwarding. -/
def execFlow (ch : BitVec 6) (data : List Byte) (s : State) : Host.Outcome State Fault Refusal :=
  .next (s.frameEvent .m 4 (State.takeFlow ch.toNat data) (frameOf 11 ch.toNat data))

/-- A station record when the STATION table becomes READY (R37): sequences empty; shadows from the demands for the
command station, 0 for the others; the repeat counter kept. -/
def State.stationAtLoad (s : State) (i : Fin 4) (r : StationRecord) : StationRecord :=
  { seqLever := none, seqHelm := none, seqTake := none, seqWatch := none,
    lever := if i = s.station.command then s.station.lever else Vector.replicate 4 0,
    helm := if i = s.station.command then s.station.helm else 0,
    repeats := r.repeats }

/-- The STATION table becomes READY (R37). -/
def State.reloadStations (s : State) : State :=
  { s with station := { s.station with records := remap s.station.records s.stationAtLoad } }

end Sys2Proof.Machine
end

