-- ==== Sys2Proof/Machine/Tables.lean ====
section
/-! DEFINITION. Table memory: TABLE-OPEN, TABLE-WRITE and TABLE-CLOSE (R185 to R190), reading tables (R191, R192). -/

namespace Sys2Proof.Machine

/-! ### Opening -/

/-- Whether some actuator record's output lies outside the centre window (R104). -/
def State.outputOffCentre (s : State) : Bool :=
  (List.finRange 8).any fun j =>
    match s.steer.actuators[j] with
    | some a => decide (s.params.centreWindow < a.output.natAbs)
    | none => false

/-- The in-use condition of a table (R186). -/
def State.inUse (s : State) : TableId → Bool
  | .station => s.enginesEngaged
  | .engine => s.enginesEngaged
  | .curve => s.enginesEngaged
  | .actuator => s.outputOffCentre
  | .coupling => s.coup.slot.isSome
  | .meter => false
  | .tank => false
  | .route => false

/-- What the reading unit does when its table is taken to LOADING (R82, R105, R129, R175). -/
def State.afterOpen (s : State) : TableId → State
  | .station => s
  | .engine => s.dropChannels
  | .curve => s
  | .actuator => s.dropActuators
  | .coupling => s.dropCouplings
  | .meter => s
  | .tank => s.dropTanks
  | .route => s

/-- A table in LOADING with a declared count: every word of its extent reads 0 (R185). -/
def loadingTable (t : TableId) (count : Nat) : Table :=
  { state := .loading, cause := .none, count := count,
    words := List.replicate (count * wordsPerEntry t) 0 }

/-- The effects of an accepted TABLE-OPEN (R185). -/
def State.openTable (t : TableId) (count : Nat) (s : State) : State :=
  let s1 := s.withTable t (loadingTable t count)
  State.afterOpen { s1 with mgmt := { s1.mgmt with loadSlot := some t, writeIndex := 0 } } t

/-- The rule of TABLE-OPEN (R185). -/
def State.tableOpen (args : List Byte) (s : State) : Answer :=
  s.needs 2 args <|
    match tableOfNum (byteAt args 0) with
    | none => s.says .badIndex []
    | some t =>
      match s.mgmt.loadSlot with
      | some held => s.says .busy [BitVec.ofNat 8 (tableNum held).val]
      | none =>
        if s.inUse t then s.says .inUse []
        else
          let n := clampNat 1 (maxEntries t) (byteAt args 1)
          (s.openTable t n).says (if n = byteAt args 1 then .ok else .clamped) (fieldOf 1 n)

/-- TABLE_OPEN (R185). -/
def execTableOpen (tag : Byte) (args : List Byte) (s : State) : Host.Outcome State Fault Refusal :=
  .next (s.managed tag (State.tableOpen args))

/-! ### Writing -/

/-- The extent of a table (section 10.1 of 10). -/
def Table.extent (x : Table) : Nat := x.words.length

/-- The words of a list with new words stored from a position on (R187). -/
def storeWords (l : List Word) (at' : Nat) (new : List Word) : List Word :=
  l.take at' ++ new ++ l.drop (at' + new.length)

/-- The rule of TABLE-WRITE (R187; log entry 17). -/
def State.tableWrite (args : List Byte) (s : State) : Answer :=
  match s.mgmt.loadSlot with
  | none => s.says .badState []
  | some t =>
    if args.length ≠ 2 ∧ args.length ≠ 4 ∧ args.length ≠ 6 then s.says .badValue []
    else
      let new := wordsOf args
      let x := s.table t
      if x.extent < s.mgmt.writeIndex + new.length then s.says .badIndex []
      else
        let s1 := s.withTable t { x with words := storeWords x.words s.mgmt.writeIndex new }
        let k := s.mgmt.writeIndex + new.length
        State.says { s1 with mgmt := { s1.mgmt with writeIndex := k } } .ok (fieldOf 2 k)

/-- TABLE_WRITE (R187). -/
def execTableWrite (tag : Byte) (args : List Byte) (s : State) : Host.Outcome State Fault Refusal :=
  .next (s.managed tag (State.tableWrite args))

/-! ### Closing -/

/-- One bit into the CRC register (R188). -/
def crcBit (reg : BitVec 16) (b : Bool) : BitVec 16 :=
  if reg.msb = b then reg <<< 1 else (reg <<< 1) ^^^ 0x1021#16

/-- One byte into the CRC register, most significant bit first (R188). -/
def crcByte (reg : BitVec 16) (x : Byte) : BitVec 16 :=
  [7, 6, 5, 4, 3, 2, 1, 0].foldl (fun r k => crcBit r (x.getLsbD k)) reg

/-- The CRC of a list of bytes (R188). -/
def crcOf (data : List Byte) : BitVec 16 := data.foldl crcByte 0xFFFF#16

/-- The lowest index below `n` in breach of a rule. -/
def firstBreach (n : Nat) (bad : Nat → Bool) : Option Nat := (List.range n).find? bad

/-- Whether a curve's 17 points, as written, are non-decreasing (R189). -/
def Table.curveRises (x : Table) (c : Nat) : Bool :=
  (List.range 16).all fun p => decide (x.word 1 (17 * c + p) 0 ≤ x.word 1 (17 * c + p + 1) 0)

/-- Whether an enabled COUPLING entry shares its node channel and sub-index with a lower enabled one (R189). -/
def Table.sharesPoint (x : Table) (i : Nat) : Bool :=
  decide (x.word 10 i 0 ≠ 0) && (List.range i).any fun k =>
    decide (x.word 10 k 0 ≠ 0 ∧ (couplingEntryOf x k).channel = (couplingEntryOf x i).channel ∧
      (couplingEntryOf x k).sub = (couplingEntryOf x i).sub)

/-- Whether an ACTUATOR entry is an enabled BOW entry that names no BOW_BOAT entry of a READY COUPLING table
(R189). -/
def State.bowUnnamed (s : State) (x : Table) (i : Nat) : Bool :=
  decide (x.word 9 i 0 ≠ 0) && decide (actuatorKindOf (x.word 9 i 1) = .bow) &&
  !(s.reaches .coupling (min 47 (x.word 9 i 8)) &&
    decide ((couplingEntryOf (s.table .coupling) (min 47 (x.word 9 i 8))).kind = .bowBoat))

/-- The content check: the index of the lowest entry found in breach, the curve number for CURVE (R189). -/
def State.contentBreach (s : State) (t : TableId) (x : Table) : Option Nat :=
  match t with
  | .station => none
  | .engine =>
    firstBreach x.count fun i =>
      decide (x.word 12 i 3 < x.word 12 i 2) || decide (x.word 12 i 4 < x.word 12 i 2)
  | .curve => firstBreach 4 fun c => decide (17 * (c + 1) ≤ x.count) && !x.curveRises c
  | .actuator => firstBreach x.count (s.bowUnnamed x)
  | .coupling =>
    firstBreach x.count fun i =>
      decide (x.word 10 i 6 ≤ x.word 10 i 5 + x.word 10 i 7) || x.sharesPoint i
  | .meter => none
  | .tank =>
    firstBreach x.count fun i =>
      decide (x.word2 7 i 0 < x.word2 7 i 2) || decide (x.word2 7 i 0 < x.word2 7 i 5)
  | .route => firstBreach x.count fun i => decide (x.word 7 i 3 < x.word 7 i 2)

/-- The three checks of a close in turn: the failing cause and its detail, or none (R188). -/
def State.closeCheck (s : State) (t : TableId) (check : Nat) : Option (Cause × Nat) :=
  let x := s.table t
  if s.mgmt.writeIndex ≠ x.extent then some (.count, s.mgmt.writeIndex)
  else if (crcOf (bytesOfWords x.words)).toNat ≠ check then
    some (.check, (crcOf (bytesOfWords x.words)).toNat)
  else (s.contentBreach t x).map fun i => (.content, i)

/-- What the reading unit does when its table becomes READY (R37, R64, R105, R130, R162, R175). -/
def State.afterReady (s : State) : TableId → State
  | .station => s.reloadStations
  | .engine => s.createChannels
  | .curve => s
  | .actuator => s.createActuators
  | .coupling => s.createCouplings
  | .meter => s.clearBaselines
  | .tank => s.createTanks
  | .route => s

/-- The table in the slot leaves LOADING for a state with a cause, and the slot is freed (R190). -/
def State.endLoad (t : TableId) (st : TableState) (cause : Cause) (s : State) : State :=
  let s1 := s.withTable t { s.table t with state := st, cause := cause }
  { s1 with mgmt := { s1.mgmt with loadSlot := none } }

/-- The rule of TABLE-CLOSE (R188, R190). -/
def State.tableClose (args : List Byte) (s : State) : Answer :=
  s.needs 2 args <|
    match s.mgmt.loadSlot with
    | none => s.says .badState []
    | some t =>
      match s.closeCheck t (u16At args 0) with
      | none => ((s.endLoad t .ready .none).afterReady t).says .ok (fieldOf 1 (s.table t).count)
      | some (cause, detail) =>
        ((s.endLoad t .rejected cause).raise .tableRejected (tableNum t).val).says .rejected
          (causeCode cause :: fieldOf 2 detail)

/-- TABLE_CLOSE (R188). -/
def execTableClose (tag : Byte) (args : List Byte) (s : State) : Host.Outcome State Fault Refusal :=
  .next (s.managed tag (State.tableClose args))

/-! ### Reading -/

/-- The rule of TABLE-READ-SEEK (R191). -/
def State.tableSeek (args : List Byte) (s : State) : Answer :=
  s.needs 3 args <|
    match tableOfNum (byteAt args 0) with
    | none => s.says .badIndex []
    | some t =>
      if (s.table t).extent ≤ u16At args 1 then s.says .badIndex []
      else State.says { s with mgmt := { s.mgmt with readTable := t, readIndex := u16At args 1 } } .ok []

/-- TABLE_READ_SEEK (R191). -/
def execTableReadSeek (tag : Byte) (args : List Byte) (s : State) : Host.Outcome State Fault Refusal :=
  .next (s.managed tag (State.tableSeek args))

/-- The rule of TABLE-READ (R191). -/
def State.tableRead (_args : List Byte) (s : State) : Answer :=
  let x := s.table s.mgmt.readTable
  if x.state = .loading then s.says .badState []
  else if x.extent ≤ s.mgmt.readIndex then s.says .badIndex []
  else
    let out := (x.words.drop s.mgmt.readIndex).take 3
    State.says { s with mgmt := { s.mgmt with readIndex := s.mgmt.readIndex + out.length } } .ok
      (bytesOfWords out)

/-- TABLE_READ (R191). -/
def execTableRead (tag : Byte) (args : List Byte) (s : State) : Host.Outcome State Fault Refusal :=
  .next (s.managed tag (State.tableRead args))

/-- The rule of TABLE-STATE (R192). -/
def State.tableStateOf (args : List Byte) (s : State) : Answer :=
  s.needs 1 args <|
    match tableOfNum (byteAt args 0) with
    | none => s.says .badIndex []
    | some t =>
      let x := s.table t
      s.says .ok ([tableStateCode x.state] ++ fieldOf 1 x.count ++
        [if x.state = .rejected then causeCode x.cause else 0] ++
        fieldOf 2 (if x.state = .loading then s.mgmt.writeIndex else 0) ++
        [match s.mgmt.loadSlot with
          | some held => BitVec.ofNat 8 (tableNum held).val
          | none => 255])

/-- TABLE_STATE (R192). -/
def execTableState (tag : Byte) (args : List Byte) (s : State) : Host.Outcome State Fault Refusal :=
  .next (s.managed tag (State.tableStateOf args))

end Sys2Proof.Machine
end

