-- ==== Sys2Proof/Machine/Management.lean ====
section
/-! DEFINITION. Parameters (R194), records (R195, R204), counters (R195), NOTICE-CLEAR (R197) and the unknown
command (R193). -/

namespace Sys2Proof.Machine

/-! ### Parameters (R194, R203) -/

/-- The parameters in the order of their codes (R203). -/
inductive Param where
  | propInterval | steerInterval | leverTimeout | leverHold | helmTimeout | reversalDwell | pollInterval
  | staleLimit | derateHold | deratePct1 | deratePct2 | deratePct3 | reservePct | releaseTimeout | matchWindow
  | centreWindow | followWindow | followCount | runFlowLimit | syncStep | syncLimit | patienceRoutine
  | patienceBulk | defaultW | defaultM | defaultT | noticeEnable
  deriving DecidableEq, Repr

/-- The parameter of a code (R203). -/
def paramOfCode : Nat → Option Param
  | 0 => some .propInterval
  | 1 => some .steerInterval
  | 2 => some .leverTimeout
  | 3 => some .leverHold
  | 4 => some .helmTimeout
  | 5 => some .reversalDwell
  | 6 => some .pollInterval
  | 7 => some .staleLimit
  | 8 => some .derateHold
  | 9 => some .deratePct1
  | 10 => some .deratePct2
  | 11 => some .deratePct3
  | 12 => some .reservePct
  | 13 => some .releaseTimeout
  | 14 => some .matchWindow
  | 15 => some .centreWindow
  | 16 => some .followWindow
  | 17 => some .followCount
  | 18 => some .runFlowLimit
  | 19 => some .syncStep
  | 20 => some .syncLimit
  | 21 => some .patienceRoutine
  | 22 => some .patienceBulk
  | 23 => some .defaultW
  | 24 => some .defaultM
  | 25 => some .defaultT
  | 26 => some .noticeEnable
  | _ => none

/-- A port default as a 32-bit value: egress in bits 0 to 2, class in bit 8 (R203). -/
def defaultCode (x : PortDefault) : Nat := x.egress.toNat + if x.cls = .bulk then 256 else 0

/-- A port default from a 32-bit value; bits naming no port are dropped (R194; log entry 15). -/
def defaultOfCode (v : Nat) : PortDefault :=
  { egress := BitVec.ofNat 3 v, cls := if v / 256 % 2 = 1 then .bulk else .routine }

/-- Whether a parameter is a time in milliseconds, in steps of 10 (R194). -/
def Param.isTime : Param → Bool
  | .propInterval => true
  | .steerInterval => true
  | .leverTimeout => true
  | .leverHold => true
  | .helmTimeout => true
  | .reversalDwell => true
  | .pollInterval => true
  | .releaseTimeout => true
  | _ => false

/-- The range of a parameter that is a number (R194); the port defaults and NOTICE_ENABLE have none. -/
def Param.range : Param → Option (Nat × Nat)
  | .propInterval => some (20, 200)
  | .steerInterval => some (20, 200)
  | .leverTimeout => some (100, 5000)
  | .leverHold => some (0, 30000)
  | .helmTimeout => some (100, 5000)
  | .reversalDwell => some (0, 15000)
  | .pollInterval => some (10, 500)
  | .staleLimit => some (8, 4095)
  | .derateHold => some (1, 65535)
  | .deratePct1 => some (10, 100)
  | .deratePct2 => some (10, 100)
  | .deratePct3 => some (10, 100)
  | .reservePct => some (10, 100)
  | .releaseTimeout => some (1000, 60000)
  | .matchWindow => some (0, 256)
  | .centreWindow => some (0, 100)
  | .followWindow => some (5, 200)
  | .followCount => some (1, 255)
  | .runFlowLimit => some (0, 65535)
  | .syncStep => some (1, 10)
  | .syncLimit => some (0, 100)
  | .patienceRoutine => some (1, 63)
  | .patienceBulk => some (1, 63)
  | .defaultW => none
  | .defaultM => none
  | .defaultT => none
  | .noticeEnable => none

/-- A value rounded down to a multiple of 10 ms for a time parameter (R194). -/
def Param.rounded (p : Param) (v : Nat) : Nat := if p.isTime then v / 10 * 10 else v

/-- The value stored for a rounded value: clamped to its range, or the bits that name ports, a class or kinds
(R194). -/
def Param.admitted (p : Param) (v : Nat) : Nat :=
  match p.range with
  | some (lo, hi) => clampNat lo hi v
  | none => if p = .noticeEnable then v % 2 ^ 20 else defaultCode (defaultOfCode v)

/-- A parameter's stored value as a number (R194, R203). -/
def Params.value (x : Params) : Param → Nat
  | .propInterval => x.propInterval
  | .steerInterval => x.steerInterval
  | .leverTimeout => x.leverTimeout
  | .leverHold => x.leverHold
  | .helmTimeout => x.helmTimeout
  | .reversalDwell => x.reversalDwell
  | .pollInterval => x.pollInterval
  | .staleLimit => x.staleLimit
  | .derateHold => x.derateHold
  | .deratePct1 => x.deratePct1
  | .deratePct2 => x.deratePct2
  | .deratePct3 => x.deratePct3
  | .reservePct => x.reservePct
  | .releaseTimeout => x.releaseTimeout
  | .matchWindow => x.matchWindow
  | .centreWindow => x.centreWindow
  | .followWindow => x.followWindow
  | .followCount => x.followCount
  | .runFlowLimit => x.runFlowLimit
  | .syncStep => x.syncStep
  | .syncLimit => x.syncLimit
  | .patienceRoutine => x.patienceRoutine
  | .patienceBulk => x.patienceBulk
  | .defaultW => defaultCode x.defaultW
  | .defaultM => defaultCode x.defaultM
  | .defaultT => defaultCode x.defaultT
  | .noticeEnable => x.noticeEnable.toNat

/-- The parameter set with one parameter holding a value (R194). -/
def Params.store (p : Param) (v : Nat) (x : Params) : Params :=
  match p with
  | .propInterval => { x with propInterval := v }
  | .steerInterval => { x with steerInterval := v }
  | .leverTimeout => { x with leverTimeout := v }
  | .leverHold => { x with leverHold := v }
  | .helmTimeout => { x with helmTimeout := v }
  | .reversalDwell => { x with reversalDwell := v }
  | .pollInterval => { x with pollInterval := v }
  | .staleLimit => { x with staleLimit := v }
  | .derateHold => { x with derateHold := v }
  | .deratePct1 => { x with deratePct1 := v }
  | .deratePct2 => { x with deratePct2 := v }
  | .deratePct3 => { x with deratePct3 := v }
  | .reservePct => { x with reservePct := v }
  | .releaseTimeout => { x with releaseTimeout := v }
  | .matchWindow => { x with matchWindow := v }
  | .centreWindow => { x with centreWindow := v }
  | .followWindow => { x with followWindow := v }
  | .followCount => { x with followCount := v }
  | .runFlowLimit => { x with runFlowLimit := v }
  | .syncStep => { x with syncStep := v }
  | .syncLimit => { x with syncLimit := v }
  | .patienceRoutine => { x with patienceRoutine := v }
  | .patienceBulk => { x with patienceBulk := v }
  | .defaultW => { x with defaultW := defaultOfCode v }
  | .defaultM => { x with defaultM := defaultOfCode v }
  | .defaultT => { x with defaultT := defaultOfCode v }
  | .noticeEnable => { x with noticeEnable := BitVec.ofNat 20 v }

/-- The state with a parameter stored; a change of CENTRE_WINDOW is handed to the release controller within the
event (R139, R194). -/
def State.storeParam (p : Param) (v : Nat) (s : State) : State :=
  let s' : State := { s with params := s.params.store p v }
  if p = .centreWindow ∧ v ≠ s.params.centreWindow then s'.checkLock .helmOffCentre else s'

/-- The rule of SET-PARAM (R194). -/
def State.setParam (args : List Byte) (s : State) : Answer :=
  s.needs 5 args <|
    match paramOfCode (byteAt args 0) with
    | none => s.says .badIndex []
    | some p =>
      let v := p.rounded (u32At args 1)
      (s.storeParam p (p.admitted v)).says (if p.admitted v = v then .ok else .clamped)
        (fieldOf 4 (p.admitted v))

/-- SET_PARAM (R194). -/
def execSetParam (tag : Byte) (args : List Byte) (s : State) : Host.Outcome State Fault Refusal :=
  .next (s.managed tag (State.setParam args))

/-- The rule of GET-PARAM (R194). -/
def State.getParam (args : List Byte) (s : State) : Answer :=
  s.needs 1 args <|
    match paramOfCode (byteAt args 0) with
    | none => s.says .badIndex []
    | some p => s.says .ok (fieldOf 4 (s.params.value p))

/-- GET_PARAM (R194). -/
def execGetParam (tag : Byte) (args : List Byte) (s : State) : Host.Outcome State Fault Refusal :=
  .next (s.managed tag (State.getParam args))

/-! ### Records (R195, R204) -/

/-- A last sequence as a byte: 255 when empty (R40). -/
def seqByte (v : Option Nat) : Byte := BitVec.ofNat 8 (v.getD 255)

/-- Items of a station record (R40, R204). -/
def State.stationItem (s : State) (i : Fin 4) (item : Nat) : List Byte :=
  let r := s.station.records[i]
  match item with
  | 0 => [seqByte r.seqLever, seqByte r.seqHelm, seqByte r.seqTake, seqByte r.seqWatch]
  | 1 => signedField 2 r.lever[0] ++ signedField 2 r.lever[1]
  | 2 => signedField 2 r.lever[2] ++ signedField 2 r.lever[3]
  | _ => signedField 2 r.helm ++ fieldOf 2 r.repeats ++ [flagByte (s.stationEnabled i)] ++
      fieldOf 1 (s.stationDetent i)

/-- Items of the command record (R40, R204). -/
def State.commandItem (s : State) (item : Nat) : List Byte :=
  match item with
  | 0 => fieldOf 1 s.station.command.val ++ signedField 2 s.station.helm
  | 1 => signedField 2 s.station.lever[0] ++ signedField 2 s.station.lever[1]
  | _ => signedField 2 s.station.lever[2] ++ signedField 2 s.station.lever[3]

/-- Items of an engine channel (R44, R84, R204). -/
def State.engineItem (s : State) (e : Fin 4) (ch : EngineChannel) (item : Nat) : List Byte :=
  match item with
  | 0 => [gearCode ch.gear, directionCode ch.engaged, freshnessCode ch.fresh, flagByte ch.reported,
      flagByte (s.sync (s.engineEntry e).group).isSome]
  | 1 => fieldOf 2 ch.c ++ fieldOf 2 ch.a ++ [rampCode ch.ramp]
  | 2 => fieldOf 2 ch.lastRaw ++ fieldOf 2 ch.lastTarget ++ fieldOf 2 ch.lastCap
  | 3 => fieldOf 2 ch.lastOutput ++ fieldOf 2 ch.repRpm ++ [directionCode ch.repGear]
  | _ => signedField 2 ch.trim ++ fieldOf 1 ch.lastD ++ [directionCode ch.lastDir] ++
      fieldOf 1 ch.lastDetent ++ [flagByte ch.fuelCap]

/-- Items of an actuator (R107, R204). -/
def State.actuatorItem (s : State) (j : Fin 8) (a : Actuator) (item : Nat) : List Byte :=
  let x := s.actuatorEntry j
  match item with
  | 0 => [actuatorStateCode a.state, rampCode a.ramp] ++ fieldOf 1 a.count ++
      [flagByte a.reported, helmFreshnessCode s.steer.helmFresh]
  | 1 => signedField 2 a.target ++ signedField 2 a.output ++ fieldOf 2 a.remainder
  | _ => signedField 2 a.lastReported ++ fieldOf 2 (x.limitAt s.coup.level) ++
      fieldOf 2 (x.rateAt s.coup.level)

/-- Items of a coupling with its record, the tow items in their places (R128, R204). -/
def State.couplingItem (s : State) (i : Fin 48) (r : CouplingRecord) (item : Nat) : List Byte :=
  let x := s.couplingEntry i
  match item with
  | 0 => [couplingStateCode r.state, flagByte r.pinOpen] ++ fieldOf 1 (s.contributionOf i) ++
      fieldOf 1 s.coup.level ++ fieldOf 1 s.candidate ++ fieldOf 1 s.coup.walk
  | 1 => fieldOf 2 r.tension ++ fieldOf 2 r.age ++ fieldOf 2 s.coup.hold
  | _ => [couplingKindCode x.kind] ++ fieldOf 1 x.crit ++ [flagByte x.powered]

/-- Items of the tow, read at coupling index 255: every record field 0 (R128, R204). -/
def State.towItem (s : State) (item : Nat) : List Byte :=
  match item with
  | 0 => [0, 0, 0] ++ fieldOf 1 s.coup.level ++ fieldOf 1 s.candidate ++ fieldOf 1 s.coup.walk
  | 1 => [0, 0, 0, 0] ++ fieldOf 2 s.coup.hold
  | _ => [0, 0, 0]

/-- Items of a meter record (R165, R204). The baseline bytes of an empty baseline are a free value (DESIGN CHOICE, log
entry 21). -/
def State.meterItem (s : State) (i : Fin 8) (item : Nat) : List Byte :=
  let r := s.fuel.meters[i]
  match item with
  | 0 => fieldOf 2 (r.baseline.getD (Config.emptyBaseline i.val).toNat) ++ [flagByte r.baseline.isSome] ++ fieldOf 2 r.glitches ++
      [flagByte (s.meterInService i)]
  | 1 => fieldOf 3 r.ra ++ fieldOf 3 r.rb
  | 2 => signedField 2 r.temp
  | _ => fieldOf 6 r.amount

/-- Items of the engine totals, read at meter index 8 to 11 (R165, R204). -/
def State.totalItem (s : State) (e : Fin 4) (item : Nat) : List Byte :=
  match item with
  | 0 => fieldOf 6 s.fuel.engines[e].supply
  | _ => fieldOf 6 s.fuel.engines[e].ret

/-- Items of a tank (R176, R204). -/
def State.tankItem (s : State) (t : Fin 8) (r : TankRecord) (item : Nat) : List Byte :=
  let x := s.tankEntry t
  match item with
  | 0 => fieldOf 6 r.balance
  | 1 => fieldOf 6 r.credits
  | 2 => fieldOf 6 r.debits
  | 3 => fieldOf 6 r.shortfall
  | 4 => fieldOf 6 r.excess
  | 5 => [flagByte r.reserve]
  | 6 => fieldOf 3 x.capacity ++ fieldOf 3 x.reserve
  | _ => fieldOf 2 x.density ++ fieldOf 3 x.loaded

/-- The number of item codes of a record kind, 0 for a kind that does not exist (R204). -/
def itemCount : Nat → Nat
  | 0 => 4
  | 1 => 3
  | 2 => 5
  | 3 => 3
  | 4 => 3
  | 5 => 4
  | 6 => 8
  | _ => 0

/-- The number of item codes of the meter kind at an index, 0 for an index that does not exist (R165, R204). -/
def meterItemCount (k : Nat) : Nat :=
  if k < 8 then 4 else if k < 12 then 2 else if k = 255 then 1 else 0

/-- The fields of an item, for a record kind and an index; `none` when the index does not exist (R195, R204). -/
def State.recordItem (s : State) (kind k item : Nat) : Option (List Byte) :=
  match kind with
  | 0 => (index? 4 k).map fun i => s.stationItem i item
  | 1 => if k = 0 then some (s.commandItem item) else none
  | 2 => (index? 4 k).bind fun e => (s.prop.channels[e]).map fun ch => s.engineItem e ch item
  | 3 => (index? 8 k).bind fun j => (s.steer.actuators[j]).map fun a => s.actuatorItem j a item
  | 4 =>
    if k = 255 then some (s.towItem item)
    else (index? 48 k).bind fun i => (s.coup.records[i]).map fun r => s.couplingItem i r item
  | 5 =>
    if k = 255 then some (signedField 6 s.fuel.unassigned)
    else if k < 8 then (index? 8 k).map fun i => s.meterItem i item
    else (index? 4 (k - 8)).map fun e => s.totalItem e item
  | 6 => (index? 8 k).bind fun t => (s.fuel.tanks[t]).map fun r => s.tankItem t r item
  | _ => none

/-- The rule of RECORD-READ: kind and item code first, then the index, then a meter item the index does not have
(R195; log entry 16). -/
def State.recordRead (args : List Byte) (s : State) : Answer :=
  s.needs 3 args <|
    if itemCount (byteAt args 0) ≤ byteAt args 2 then s.says .badValue []
    else match s.recordItem (byteAt args 0) (byteAt args 1) (byteAt args 2) with
      | none => s.says .badIndex []
      | some fields =>
        if byteAt args 0 = 5 ∧ meterItemCount (byteAt args 1) ≤ byteAt args 2 then s.says .badValue []
        else s.says .ok fields

/-- RECORD_READ (R195). -/
def execRecordRead (tag : Byte) (args : List Byte) (s : State) : Host.Outcome State Fault Refusal :=
  .next (s.managed tag (State.recordRead args))

/-! ### Counters (R195) -/

/-- What a counter code names (R203). -/
inductive Counter where
  | malformed (p : Port)
  | frameLoss (p : Port)
  | repeats (i : Fin 4)
  | glitches (i : Fin 8)
  | lastIndex (k : Fin 20)
  deriving DecidableEq, Repr

/-- The counter of a code (R203). -/
def counterOfCode (v : Nat) : Option Counter :=
  if v < 3 then (portOfNum v).map .malformed
  else if v < 6 then (portOfNum (v - 3)).map .frameLoss
  else if v < 8 then none
  else if v < 12 then (index? 4 (v - 8)).map .repeats
  else if v < 16 then none
  else if v < 24 then (index? 8 (v - 16)).map .glitches
  else if v < 32 then none
  else (index? 20 (v - 32)).map .lastIndex

/-- The value of a counter (R195; log entry 14 for a notice). -/
def State.counter (s : State) : Counter → Nat
  | .malformed p => (s.comms.port p).malformed
  | .frameLoss p => (s.comms.port p).frameLoss
  | .repeats i => s.station.records[i].repeats
  | .glitches i => s.fuel.meters[i].glitches
  | .lastIndex k => s.comms.notices[k].last

/-- The state with a counter of the first four groups at 0; a notice's last index is not changed (R195). -/
def State.zeroed (s : State) : Counter → State
  | .malformed p => s.onPort p fun u => { u with malformed := 0 }
  | .frameLoss p => s.onPort p fun u => { u with frameLoss := 0 }
  | .repeats i => s.withStation i { s.station.records[i] with repeats := 0 }
  | .glitches i =>
    { s with fuel := { s.fuel with meters := put s.fuel.meters i { s.fuel.meters[i] with glitches := 0 } } }
  | .lastIndex _ => s

/-- The rule of COUNTER-READ (R195). That a zero flag above 1 is BAD_VALUE for a notice's code too, where R195 both says so
of every known code and says that the flag is ignored there, is the model's reading (DEDUCED, log entry 22). -/
def State.counterRead (args : List Byte) (s : State) : Answer :=
  s.needs 2 args <|
    match counterOfCode (byteAt args 0) with
    | none => s.says .badIndex []
    | some c =>
      if 1 < byteAt args 1 then s.says .badValue []
      else (if byteAt args 1 = 1 then s.zeroed c else s).says .ok (fieldOf 2 (s.counter c))

/-- COUNTER_READ (R195). -/
def execCounterRead (tag : Byte) (args : List Byte) (s : State) : Host.Outcome State Fault Refusal :=
  .next (s.managed tag (State.counterRead args))

/-! ### NOTICE-CLEAR (R197) -/

/-- The set of standing flags as a number: bit k for kind k (R202). -/
def flagSet (v : Vector Notice 20) : Nat :=
  (List.finRange 20).foldl (fun n k => n + if v[k].flag then 2 ^ k.val else 0) 0

/-- The notices with the flags of a set cleared and the last indexes kept (R197). -/
def clearFlags (set : Nat) (v : Vector Notice 20) : Vector Notice 20 :=
  remap v fun k x => if set.testBit k.val then { x with flag := false } else x

/-- The rule of NOTICE-CLEAR (R197). -/
def State.noticeClear (args : List Byte) (s : State) : Answer :=
  s.needs 3 args <|
    State.says { s with comms := { s.comms with notices := clearFlags (u24At args 0) s.comms.notices } } .ok
      (fieldOf 3 (flagSet s.comms.notices))

/-- NOTICE_CLEAR (R197). -/
def execNoticeClear (tag : Byte) (args : List Byte) (s : State) : Host.Outcome State Fault Refusal :=
  .next (s.managed tag (State.noticeClear args))

/-- UNKNOWN_COMMAND (R193): a code that names no command is answered BAD_VALUE. -/
def execUnknownCommand (tag _code : Byte) (_args : List Byte) (s : State) :
    Host.Outcome State Fault Refusal :=
  .next (s.managed tag fun s => s.says .badValue [])

end Sys2Proof.Machine
end

