-- ==== Sys2Proof/Machine/Restart.lean ====
section
/-! DEFINITION. The port events other than a frame received (R19, R20, R22), the two restart lines (R198, R199), what
each unit takes at the end of a restart, and the RESTART command (R199). -/

namespace Sys2Proof.Machine

/-! ### What each unit takes at the end of a warm restart -/

/-- The station unit: the command record, the helm demand and the helm shadows are kept (R39). -/
def StationUnit.restarted (u : StationUnit) : StationUnit :=
  { records := remap u.records fun _ r => { StationRecord.blank with helm := r.helm }
    command := u.command, lever := Vector.replicate 4 0, helm := u.helm }

/-- The table and management unit: a table in LOADING becomes REJECTED with cause RESTART (R199). -/
def Table.restarted (x : Table) : Table :=
  if x.state = .loading then { x with state := .rejected, cause := .restart } else x

/-- The table and management unit's own state after a warm restart (R199). -/
def TableUnit.restarted (u : TableUnit) : TableUnit :=
  { tables := remap u.tables fun _ x => x.restarted
    loadSlot := none, writeIndex := 0, readTable := .station, readIndex := 0 }

/-- A meter record after a warm restart: the last temperature and the last amount are kept (R164). -/
def MeterRecord.restarted (r : MeterRecord) : MeterRecord :=
  { r with baseline := none, ra := 0, rb := 0, glitches := 0 }

/-- The fuel unit after a warm restart: the account, the tank records and the capture sequence are kept, the
snapshot buffer is EMPTY (R164, R175, R177). -/
def FuelUnit.restarted (u : FuelUnit) : FuelUnit :=
  { u with meters := remap u.meters fun _ r => r.restarted, snapshot := none }

/-- A coupling record after a warm restart (R132). -/
def CouplingRecord.restarted (r : CouplingRecord) : CouplingRecord :=
  if r.state = .released then r else { r with state := .unknown, age := 0 }

/-- An actuator record after a warm restart: ALIGN with its output and last reported value kept (R97, R106). -/
def Actuator.restarted (a : Actuator) : Actuator := { a.align a.output with reported := false }

/-- The propulsion unit after a warm restart (R41, R62, R83). -/
def State.restartPropulsion (s : State) : State :=
  let s1 := if s.ready .engine then s.createChannels else s.dropChannels
  { s1 with prop := { s1.prop with rampTimer := s.params.propInterval } }

/-- The coupling supervisor with the release controller after a warm restart: with COUPLING READY the level is set to
the candidate without notice; otherwise the tow items are kept (R110, R132, R144). -/
def State.restartCouplings (s : State) : State :=
  let s1 : State := { s with coup := { s.coup with
    pollTimer := s.params.pollInterval, slot := none, releaseTimer := none } }
  if s.ready .coupling then
    let s2 : State := { s1 with coup := { s1.coup with
      records := remap s1.coup.records fun _ r => r.map CouplingRecord.restarted, walk := 0, hold := 0 } }
    { s2 with coup := { s2.coup with level := s2.candidate } }
  else { s1 with coup := { s1.coup with records := Vector.replicate 48 none } }

/-- The steering unit after a warm restart, told of the coupling records as they now stand (R88, R102, R106). -/
def State.restartSteering (s : State) : State :=
  let old := s.steer.actuators
  State.tellSteering { s with steer :=
    { steeringTimer := s.params.steerInterval, helmFresh := .held, helmTimer := none
      actuators := if s.ready .actuator then remap old fun _ a => a.map Actuator.restarted
        else Vector.replicate 8 none } }

/-- The part at the end of a warm restart whose straps read `straps` (R24, R39, R41, R83, R106, R132, R144, R164, R175,
R177, R199). -/
def State.warm (straps : Straps) (s : State) : State :=
  ({ s with comms := Comms.restarted straps, station := s.station.restarted, fuel := s.fuel.restarted,
            mgmt := s.mgmt.restarted, straps := straps, channel := straps.mch, restart := none,
            replyWait := none } : State).restartPropulsion.restartCouplings.restartSteering

/-- The part at the end of a power-on reset whose straps read `straps` (R24, R38, R62, R83, R106, R131, R144, R163,
R175, R177, R198). -/
def State.coldStart (straps : Straps) (s : State) : State := State.poweredOn straps s.pending

/-! ### The restart lines -/

/-- The part enters a restart; a restart pending state ends (R198, R199). -/
def State.enterRestart (k : RestartKind) (s : State) : State :=
  { s with restart := some k, replyWait := none }

/-- POWER_ON_RESET (R198): from the RESET line, also during a warm restart or while RESTART awaits its REPLY. -/
def execPowerOnReset (s : State) : Host.Outcome State Fault Refusal := .next (s.enterRestart .powerOn)

/-- WARM_RESTART (R199): the RESTART line falls. While a restart is held it changes nothing (log entry 10). -/
def execWarmRestart (s : State) : Host.Outcome State Fault Refusal :=
  .next (if s.restart.isSome then s else s.enterRestart .warm)

/-- END_OF_RESTART (R24): each unit takes its restart values, and the straps are read. Nothing outside a restart
(log entry 3). -/
def execEndOfRestart (straps : Straps) (s : State) : Host.Outcome State Fault Refusal :=
  .next (match s.restart with
    | none => s
    | some .powerOn => s.coldStart straps
    | some .warm => s.warm straps)

/-! ### The RESTART command -/

/-- The RESTART command (R199): its REPLY is offered to W's BULK queue and a restart pending state begins; when the REPLY
is refused at a full or DOWN queue, the part enters the warm restart within the event (log entry 9). -/
def State.requestRestart (tag : Byte) (s : State) : State :=
  if s.restart.isSome || s.replyWait.isSome then s
  else match s.comms.joinLow s.env .w .bulk (replyFrame s.channel tag .ok []) with
    | some c => { s with comms := c, replyWait := some s.comms.w.bulk.length }
    | none => State.enterRestart .warm { s with comms := s.comms.discard s.env .w }

/-- RESTART_COMMAND (R199). -/
def execRestartCommand (tag : Byte) (_args : List Byte) (s : State) : Host.Outcome State Fault Refusal :=
  .next (s.requestRestart tag)

/-! ### Port events -/

/-- A BULK frame of W has been sent: the REPLY of RESTART is one place nearer, and its own transmit complete enters
the warm restart (R199; log entry 9). -/
def State.replySent (s : State) : State :=
  match s.replyWait with
  | none => s
  | some 0 => s.enterRestart .warm
  | some (n + 1) => { s with replyWait := some n }

/-- A transmit complete on a port with a frame in flight: it leaves its queue, and the arbiter makes the next grant
(R19). -/
def State.transmitted (p : Port) (s : State) : State :=
  let s1 := s.onPort p fun u => u.sent.grant s.env
  if p = .w ∧ s.comms.w.inFlight = some .bulk then s1.replySent else s1

/-- TRANSMIT_COMPLETE (R19). Nothing in restart, or with no frame in flight (log entry 3). -/
def execTransmitComplete (port : Port) (s : State) : Host.Outcome State Fault Refusal :=
  .next (if s.restart.isSome || (s.comms.port port).inFlight.isNone then s else s.transmitted port)

/-- A link lost: the queues and counts of R20, then FRAME_LOSS when a frame was discarded, then PORT_DOWN; a REPLY of
RESTART that leaves W's queue enters the warm restart (R20, R199; log entry 9). -/
def State.linkGone (p : Port) (s : State) : State :=
  let s1 := s.onPort p PortUnit.lost
  let s2 := if (s.comms.port p).lostFrames = 0 then s1 else s1.raise .frameLoss (portNum p)
  let s3 := s2.raise .portDown (portNum p)
  if p = .w ∧ s.replyWait.isSome = true then s3.enterRestart .warm else s3

/-- LINK_LOST (R20). Nothing in restart (log entry 3). -/
def execLinkLost (port : Port) (s : State) : Host.Outcome State Fault Refusal :=
  .next (if s.restart.isSome then s else s.linkGone port)

/-- LINK_RESTORED (R22): the port goes UP, and the arbiter makes a grant at once. Nothing in restart (log entry 3). -/
def execLinkRestored (port : Port) (s : State) : Host.Outcome State Fault Refusal :=
  .next (if s.restart.isSome then s
    else s.onPort port fun u => ({ u with link := .up } : PortUnit).grant s.env)

end Sys2Proof.Machine
end

