-- ==== Sys2Proof/Machine/Classifier.lean ====
section
/-! DEFINITION. FRAME_RECEIVED: the frame classifier of R1 to R6, over the same unit handlers and command rules as the
rows of their own. -/

namespace Sys2Proof.Machine

/-- The commands of R203 that are carried out and then answered (all but RESTART). A code that names no command
answers BAD_VALUE (R193). -/
def commandBody (code : Nat) (args : List Byte) (s : State) : Answer :=
  match code with
  | 0x01 => s.tableOpen args
  | 0x02 => s.tableWrite args
  | 0x03 => s.tableClose args
  | 0x04 => s.tableSeek args
  | 0x05 => s.tableRead args
  | 0x06 => s.tableStateOf args
  | 0x10 => s.setParam args
  | 0x11 => s.getParam args
  | 0x20 => s.recordRead args
  | 0x21 => s.counterRead args
  | 0x22 => s.noticeClear args
  | 0x30 => s.snapCapture args
  | 0x31 => s.snapRead args
  | 0x32 => s.bunkerTank args
  | 0x33 => s.transferFuel args
  | 0x40 => s.requestRelease args
  | 0x41 => s.detachCoupling args
  | 0x42 => s.attachCoupling args
  | 0x43 => s.pollOne args
  | 0x50 => s.resetActuator args
  | _ => s.says .badValue []

/-- An MGMT frame handed to the table and management unit, by its command code (R6, R193, R203). -/
def State.command (tag : Byte) (code : Nat) (args : List Byte) (s : State) : State :=
  if code = 0x7F then s.requestRestart tag else s.managed tag (commandBody code args)

/-- An MGMT frame on the management channel: malformed below two bytes, else its command; never forwarded
(R4, R6). -/
def State.mgmtFrame (f : Frame) (s : State) : State :=
  if s.deaf .w then s
  else if f.data.length < 2 then s.onPort .w PortUnit.countMalformed
  else s.command (f.data.getD 0 0) (byteAt f.data 1) (f.data.drop 2)

/-- The kinds of a received frame as the classifier tells them apart on a port (R2, R3). -/
inductive FrameClass where
  | lever | helm | govReport | rudReport | coupleReport | take | flow | watch | mgmt | free
  deriving DecidableEq, Repr

/-- The class of a frame received on a port, for a management channel (R2, R3). -/
def classOf (mgmtChannel : Nat) (p : Port) (f : Frame) : FrameClass :=
  if kindOf f = 5 ∧ p = .w then .lever
  else if kindOf f = 6 ∧ p = .w then .helm
  else if kindOf f = 7 ∧ p = .m then .govReport
  else if kindOf f = 8 ∧ p ≠ .w then .rudReport
  else if kindOf f = 9 ∧ p = .t then .coupleReport
  else if kindOf f = 10 ∧ p = .w then .take
  else if kindOf f = 11 ∧ p = .m then .flow
  else if kindOf f = 13 ∧ p = .w then .watch
  else if kindOf f = 15 ∧ p = .w ∧ channelOf f = mgmtChannel then .mgmt
  else .free

/-- A frame received on a port, whole (R1 to R9). -/
def State.received (p : Port) (f : Frame) (s : State) : State :=
  let ch := channelOf f
  match classOf s.channel.toNat p f with
  | .lever => s.frameEvent p 4 (State.stationFrame .lever ch f.data (State.leverFrom f.data)) f
  | .helm => s.frameEvent p 3 (State.stationFrame .helm ch f.data (State.helmFrom f.data)) f
  | .take => s.frameEvent p 2 (State.stationFrame .take ch f.data (State.takeFrom f.data)) f
  | .watch => s.frameEvent p 1 (State.stationFrame .watch ch f.data State.watchFrom) f
  | .govReport => s.frameEvent p 3 (State.takeGovReport ch f.data) f
  | .rudReport => s.frameEvent p 2 (State.takeRudReport p ch f.data) f
  | .coupleReport => s.frameEvent p 4 (State.takeCoupleReport ch f.data) f
  | .flow => s.frameEvent p 4 (State.takeFlow ch f.data) f
  | .mgmt => s.mgmtFrame f
  | .free => s.frameEvent p 0 id f

/-- FRAME_RECEIVED (R1). -/
def execFrameReceived (port : Port) (frame : Frame) (s : State) : Host.Outcome State Fault Refusal :=
  .next (s.received port frame)

end Sys2Proof.Machine
end

