-- ==== Sys2Proof/Machine/Dispatch.lean ====
section
/-! DEFINITION. One arm for each command, each a direct call of its meaning. -/

namespace Sys2Proof.Machine

def exec (i : Instr) (s : State) : Host.Outcome State Fault Refusal :=
  match i with
  | .frameReceived port frame => Sys2Proof.Machine.execFrameReceived port frame s
  | .transmitComplete port => Sys2Proof.Machine.execTransmitComplete port s
  | .linkLost port => Sys2Proof.Machine.execLinkLost port s
  | .linkRestored port => Sys2Proof.Machine.execLinkRestored port s
  | .lever ch data => Sys2Proof.Machine.execLever ch data s
  | .helm ch data => Sys2Proof.Machine.execHelm ch data s
  | .take ch data => Sys2Proof.Machine.execTake ch data s
  | .watch ch data => Sys2Proof.Machine.execWatch ch data s
  | .govReport ch data => Sys2Proof.Machine.execGovReport ch data s
  | .rudReport port ch data => Sys2Proof.Machine.execRudReport port ch data s
  | .coupleReport ch data => Sys2Proof.Machine.execCoupleReport ch data s
  | .flow ch data => Sys2Proof.Machine.execFlow ch data s
  | .tableOpen tag args => Sys2Proof.Machine.execTableOpen tag args s
  | .tableWrite tag args => Sys2Proof.Machine.execTableWrite tag args s
  | .tableClose tag args => Sys2Proof.Machine.execTableClose tag args s
  | .tableReadSeek tag args => Sys2Proof.Machine.execTableReadSeek tag args s
  | .tableRead tag args => Sys2Proof.Machine.execTableRead tag args s
  | .tableState tag args => Sys2Proof.Machine.execTableState tag args s
  | .setParam tag args => Sys2Proof.Machine.execSetParam tag args s
  | .getParam tag args => Sys2Proof.Machine.execGetParam tag args s
  | .recordRead tag args => Sys2Proof.Machine.execRecordRead tag args s
  | .counterRead tag args => Sys2Proof.Machine.execCounterRead tag args s
  | .noticeClear tag args => Sys2Proof.Machine.execNoticeClear tag args s
  | .snapCapture tag args => Sys2Proof.Machine.execSnapCapture tag args s
  | .snapRead tag args => Sys2Proof.Machine.execSnapRead tag args s
  | .bunker tag args => Sys2Proof.Machine.execBunker tag args s
  | .transfer tag args => Sys2Proof.Machine.execTransfer tag args s
  | .coupleRelease tag args => Sys2Proof.Machine.execCoupleRelease tag args s
  | .coupleDetach tag args => Sys2Proof.Machine.execCoupleDetach tag args s
  | .coupleAttach tag args => Sys2Proof.Machine.execCoupleAttach tag args s
  | .pollNow tag args => Sys2Proof.Machine.execPollNow tag args s
  | .actuatorReset tag args => Sys2Proof.Machine.execActuatorReset tag args s
  | .restartCommand tag args => Sys2Proof.Machine.execRestartCommand tag args s
  | .unknownCommand tag code args => Sys2Proof.Machine.execUnknownCommand tag code args s
  | .rampTimerExpiry => Sys2Proof.Machine.execRampTimerExpiry s
  | .dwellTimerExpiry engine => Sys2Proof.Machine.execDwellTimerExpiry engine s
  | .freshnessTimerExpiry engine => Sys2Proof.Machine.execFreshnessTimerExpiry engine s
  | .holdTimerExpiry engine => Sys2Proof.Machine.execHoldTimerExpiry engine s
  | .steeringTimerExpiry => Sys2Proof.Machine.execSteeringTimerExpiry s
  | .helmTimerExpiry => Sys2Proof.Machine.execHelmTimerExpiry s
  | .pollTimerExpiry => Sys2Proof.Machine.execPollTimerExpiry s
  | .releaseTimerExpiry => Sys2Proof.Machine.execReleaseTimerExpiry s
  | .powerOnReset => Sys2Proof.Machine.execPowerOnReset s
  | .warmRestart => Sys2Proof.Machine.execWarmRestart s
  | .endOfRestart straps => Sys2Proof.Machine.execEndOfRestart straps s

end Sys2Proof.Machine
end

