-- ==== Sys2Proof/Safety.lean ====
section
/-! DEFINITION. What a safe run keeps: the invariants that the rules of the spec promise of the whole part, one for each
group of units, each a check that can be evaluated; and the conditions under which the part listens to a port. -/

namespace Sys2Proof.Machine

/-- The part takes frames on a port: it is not held in a restart and the port is UP (R1, R20, R198, R199). -/
abbrev State.hears (s : State) (p : Port) : Prop := s.restart = none ∧ (s.comms.port p).link = .up

/-- The part carries out management commands: no restart is held or pending. A command taken is carried out whether W is
UP or DOWN (R193, R198, R199). -/
abbrev State.listens (s : State) : Prop := s.restart = none ∧ s.replyWait = none

/-- The state after a command whose effects leave `t`, with its REPLY offered to W's BULK queue last (R193, R201). -/
def State.replied (tag : Byte) (st : Status) (results : List Byte) (t : State) : State :=
  t.offerLow .w .bulk (replyFrame t.channel tag st results)

/-! ### Ports (R10, R12, R15, R16, R21, R23) -/

/-- The queue of the frame in flight holds it. -/
def PortUnit.flightSound (p : PortUnit) : Bool :=
  match p.inFlight with
  | none => true
  | some .urgent => !p.urgent.isEmpty
  | some .routine => !p.routine.isEmpty
  | some .bulk => !p.bulk.isEmpty

/-- Queues within their capacities, at most one waiting URGENT frame for a key, counts within their ranges; an UP port
with no frame in flight holds no frame, and a DOWN port holds URGENT frames only, none of them in flight. -/
def PortUnit.sound (p : PortUnit) : Bool :=
  decide (p.urgent.length ≤ Config.urgentCap) && decide (p.routine.length ≤ Config.routineCap) &&
  decide (p.bulk.length ≤ Config.bulkCap) && decide ((p.urgentWaiting.map keyOf).Nodup) && p.flightSound &&
  decide (p.passedRoutine ≤ Config.passedMax) && decide (p.passedBulk ≤ Config.passedMax) &&
  decide (p.malformed ≤ Config.counterMax) && decide (p.frameLoss ≤ Config.counterMax) &&
  (match p.link with
    | .up => p.inFlight.isSome || !p.holdsFrame
    | .down => p.inFlight.isNone && p.routine.isEmpty && p.bulk.isEmpty)

/-- The three ports are sound. -/
def State.portsSound (s : State) : Bool := s.comms.w.sound && s.comms.m.sound && s.comms.t.sound

/-! ### Tables and records (R63, R85, R108, R166, R183 to R185) -/

/-- The tables by their ids. -/
def tableIds : List TableId := [.station, .engine, .curve, .actuator, .coupling, .meter, .tank, .route]

/-- A table's declared count, extent, cause and place in the load slot fit its state (R183 to R185). -/
def State.tableSound (s : State) (t : TableId) : Bool :=
  decide ((s.table t).count ≤ maxEntries t) &&
  decide ((s.table t).words.length = (s.table t).count * wordsPerEntry t) &&
  decide ((s.table t).state = .empty ↔ (s.table t).count = 0) &&
  decide ((s.table t).cause = .none ↔ (s.table t).state ≠ .rejected) &&
  decide (s.mgmt.loadSlot = some t ↔ (s.table t).state = .loading)

/-- Every table is sound, and the write index lies within the table in the slot. -/
def State.tablesSound (s : State) : Bool :=
  tableIds.all s.tableSound &&
  (match s.mgmt.loadSlot with
    | none => true
    | some t => decide (s.mgmt.writeIndex ≤ (s.table t).extent))

/-- An engine channel, an actuator record, a coupling record or a tank record exists exactly for the enabled entries of
its READY table (R63, R85, R108, R166). -/
def State.recordsSound (s : State) : Bool :=
  (List.finRange 4).all (fun e => (s.prop.channels[e]).isSome == s.engineEnabled e) &&
  (List.finRange 8).all (fun j => (s.steer.actuators[j]).isSome == s.actuatorEnabled j) &&
  (List.finRange 48).all (fun i => (s.coup.records[i]).isSome == s.couplingEnabled i) &&
  (List.finRange 8).all (fun t => (s.fuel.tanks[t]).isSome == s.reaches .tank t.val)

/-! ### Stations (R30) -/

/-- The command station's shadows are the demands (R30). -/
def State.stationsSound (s : State) : Bool :=
  decide (s.station.records[s.station.command].lever = s.station.lever) &&
  decide (s.station.records[s.station.command].helm = s.station.helm)

/-! ### Steering (R90, R102, R103) -/

/-- A FLANKING actuator whose engine is not in ASTERN has target 0 (R90); an actuator is GATED exactly when it is a BOW
actuator whose coupling is not MADE, and then its target and output are 0 (R102, R103). -/
def State.actuatorSound (s : State) (j : Fin 8) : Bool :=
  match s.steer.actuators[j] with
  | none => true
  | some a =>
    decide ((s.actuatorEntry j).kind = .flanking → s.inAstern (s.actuatorEntry j).engine = false → a.target = 0) &&
    decide (a.state = .gated ↔ (s.actuatorEntry j).kind = .bow ∧ s.bowMade j = false) &&
    decide (a.state = .gated → a.target = 0 ∧ a.output = 0)

/-- Every actuator record is sound. -/
def State.steeringSound (s : State) : Bool := (List.finRange 8).all s.actuatorSound

/-! ### Couplings and the release (R124, R133) -/

/-- While COUPLING is READY the derate level is at least every contribution (R124). -/
def State.derateSound (s : State) : Bool :=
  !s.ready .coupling || (List.finRange 48).all fun i => decide (s.contributionOf i ≤ s.coup.level)

/-- A coupling record is RELEASING. -/
def State.releasing (s : State) (i : Fin 48) : Bool :=
  match s.coup.records[i] with
  | some r => decide (r.state = .releasing)
  | none => false

/-- A record is RELEASING exactly while the slot holds its index; the release timer runs exactly while the slot is
OCCUPIED; and while it is, no condition in the coupling's interlock set holds (R133). -/
def State.releaseSound (s : State) : Bool :=
  (List.finRange 48).all (fun i => s.releasing i == decide (s.coup.slot = some i)) &&
  s.coup.slot.isSome == s.coup.releaseTimer.isSome &&
  (match s.coup.slot with
    | none => true
    | some i => (s.firstLock i).isNone)

/-! ### Tanks (R170, R171) -/

/-- A tank's identity and bounds, and its reserve state (R170, R171). -/
def State.tankSound (s : State) (t : Fin 8) : Bool :=
  match s.fuel.tanks[t] with
  | none => true
  | some r =>
    decide (r.balance + r.debits + r.excess = (s.tankEntry t).loaded * 1000 + r.credits + r.shortfall) &&
    decide (r.balance ≤ s.tankCapacity t) && (r.reserve == s.inReserve t r.balance)

/-- Every tank record is sound. -/
def State.tanksSound (s : State) : Bool := (List.finRange 8).all s.tankSound

/-! ### Engines (R44, R59) -/

/-- The computation fields of a channel lie in their ranges, and its engaged direction fits its gear state
(R44, R63). -/
def State.channelSound (s : State) (e : Fin 4) : Bool :=
  match s.prop.channels[e] with
  | none => true
  | some ch =>
    let idle := (s.engineEntry e).idle
    decide (idle ≤ ch.c ∧ ch.c ≤ 3000) && decide (ch.a ≤ 999) && decide (ch.lastRaw ≤ 3000) &&
    decide (idle ≤ ch.lastTarget ∧ ch.lastTarget ≤ ch.lastCap ∧ ch.lastCap ≤ 3000) &&
    decide (idle ≤ ch.lastOutput ∧ ch.lastOutput ≤ ch.lastCap) &&
    decide (ch.engaged = .neutral ↔ ch.gear = .neutral ∨ ch.gear = .dwell) &&
    decide (ch.gear = .neutral ∨ ch.gear = .dwell → ch.c = idle) &&
    decide (ch.dwellTimer.isSome = true ↔ ch.gear = .dwell)

/-- Every engine channel is sound. -/
def State.channelsSound (s : State) : Bool := (List.finRange 4).all s.channelSound

/-- Everything a safe run keeps. -/
def State.sound (s : State) : Bool :=
  s.portsSound && s.tablesSound && s.recordsSound && s.stationsSound && s.steeringSound && s.derateSound &&
  s.releaseSound && s.tanksSound && s.channelsSound

end Sys2Proof.Machine
end

