-- ==== Sys2Proof/WellFormed.lean ====
section
/-! DEFINITION. Which terms of `Instr` stand for an event the part can meet. The meanings are total and do not
read this check: it says what a sender may send. -/

namespace Sys2Proof

/-- The command codes of R203. -/
def commandCodes : List Nat :=
  [0x01, 0x02, 0x03, 0x04, 0x05, 0x06, 0x10, 0x11, 0x20, 0x21, 0x22, 0x30, 0x31, 0x32, 0x33,
   0x40, 0x41, 0x42, 0x43, 0x50, 0x7F]

/-- A frame row carries at least its kind's minimum data length (R2) and at most 8 bytes. A shorter frame of the
kind is malformed and comes as FRAME_RECEIVED (R4). -/
def frameLengthOk (least : Nat) (data : List Byte) : Bool :=
  decide (least ≤ data.length) && decide (data.length ≤ 8)

/-- An MGMT frame carries 0 to 6 argument bytes (R6). -/
def argsOk (args : List Byte) : Bool := decide (args.length ≤ 6)

/-- Well-formedness of a command. -/
def Instr.wf : Instr → Bool
  | .frameReceived _ f => decide (f.data.length ≤ 8)
  | .transmitComplete _ => true
  | .linkLost _ => true
  | .linkRestored _ => true
  | .lever _ data => frameLengthOk 4 data
  | .helm _ data => frameLengthOk 3 data
  | .take _ data => frameLengthOk 2 data
  | .watch _ data => frameLengthOk 1 data
  | .govReport _ data => frameLengthOk 3 data
  | .rudReport p _ data => decide (p ≠ .w) && frameLengthOk 2 data
  | .coupleReport _ data => frameLengthOk 4 data
  | .flow _ data => frameLengthOk 4 data
  | .tableOpen _ args => argsOk args
  | .tableWrite _ args => argsOk args
  | .tableClose _ args => argsOk args
  | .tableReadSeek _ args => argsOk args
  | .tableRead _ args => argsOk args
  | .tableState _ args => argsOk args
  | .setParam _ args => argsOk args
  | .getParam _ args => argsOk args
  | .recordRead _ args => argsOk args
  | .counterRead _ args => argsOk args
  | .noticeClear _ args => argsOk args
  | .snapCapture _ args => argsOk args
  | .snapRead _ args => argsOk args
  | .bunker _ args => argsOk args
  | .transfer _ args => argsOk args
  | .coupleRelease _ args => argsOk args
  | .coupleDetach _ args => argsOk args
  | .coupleAttach _ args => argsOk args
  | .pollNow _ args => argsOk args
  | .actuatorReset _ args => argsOk args
  | .restartCommand _ args => argsOk args
  | .unknownCommand _ code args => decide (code.toNat ∉ commandCodes) && argsOk args
  | .rampTimerExpiry => true
  | .dwellTimerExpiry _ => true
  | .freshnessTimerExpiry _ => true
  | .holdTimerExpiry _ => true
  | .steeringTimerExpiry => true
  | .helmTimerExpiry => true
  | .pollTimerExpiry => true
  | .releaseTimerExpiry => true
  | .powerOnReset => true
  | .warmRestart => true
  | .endOfRestart _ => true

end Sys2Proof
end

