-- ==== Sys2Proof/Certificates/Slice0/Obligations.lean ====
section
/-! DEFINITION. The statements about the CT-18 for the provers, in the order of OBLIGATIONS.json. -/

open Sys2Proof Sys2Proof.Machine

/-! ### Steps and restarts held -/

/-- The front command of the queue is carried out on the state with the queue's rest. That an empty queue idles is the
model's choice (log entry 1). -/
def Obligations.StepTakesFrontCommand : Prop :=
  (∀ (c : Instr) (rest : List Instr) (s : State), s.pending = c :: rest →
    step s = exec c { s with pending := rest }) ∧
  (∀ s : State, s.pending = [] → step s = .next s)

/-- The part right after reset keeps every promise of Safety.lean. The strap levels of State.reset are the model's
(log entry 12), and no clause reads them. -/
def Obligations.ResetIsSound : Prop := State.reset.sound = true

/-- While the part is held in a restart no frame, command, transmission or timer changes it (00_scope.md section 6,
R198, R199). That the events the rules do not speak of then (link lost, link restored, transmit complete) change nothing
is the model's choice (log entry 3), and that a RESTART edge changes nothing is its reading (log entry 10). -/
def Obligations.RestartHoldsEverything : Prop :=
  ∀ (c : Instr) (s : State), s.restart.isSome = true → c ≠ .powerOnReset → (∀ straps, c ≠ .endOfRestart straps) →
    exec c s = .next s

/-- Events that the spec says do not occur change nothing: a frame received on a DOWN port, as FRAME_RECEIVED or as the
row of its kind, the expiry of a stopped timer or of a channel that does not exist, a transmit complete with no frame in
flight, an end of restart outside a restart. The model's choice (log entry 3). -/
def Obligations.ImpossibleEventsChangeNothing : Prop :=
  (∀ (p : Port) (f : Frame) (s : State), (s.comms.port p).link = .down →
    exec (.frameReceived p f) s = .next s) ∧
  (∀ (ch : BitVec 6) (data : List Byte) (s : State), s.comms.w.link = .down →
    exec (.lever ch data) s = .next s ∧ exec (.helm ch data) s = .next s ∧
    exec (.take ch data) s = .next s ∧ exec (.watch ch data) s = .next s) ∧
  (∀ (ch : BitVec 6) (data : List Byte) (s : State), s.comms.m.link = .down →
    exec (.govReport ch data) s = .next s ∧ exec (.flow ch data) s = .next s) ∧
  (∀ (ch : BitVec 6) (data : List Byte) (s : State), s.comms.t.link = .down →
    exec (.coupleReport ch data) s = .next s) ∧
  (∀ (p : Port) (ch : BitVec 6) (data : List Byte) (s : State), (s.comms.port p).link = .down →
    exec (.rudReport p ch data) s = .next s) ∧
  (∀ (e : Fin 4) (s : State), s.prop.channels[e] = none →
    exec (.dwellTimerExpiry e) s = .next s ∧ exec (.freshnessTimerExpiry e) s = .next s ∧
    exec (.holdTimerExpiry e) s = .next s) ∧
  (∀ (e : Fin 4) (c : EngineChannel) (s : State), s.prop.channels[e] = some c →
    (c.dwellTimer = none → exec (.dwellTimerExpiry e) s = .next s) ∧
    (c.freshTimer = none → exec (.freshnessTimerExpiry e) s = .next s) ∧
    (c.holdTimer = none → exec (.holdTimerExpiry e) s = .next s)) ∧
  (∀ s : State, s.steer.helmTimer = none → exec .helmTimerExpiry s = .next s) ∧
  (∀ s : State, s.coup.releaseTimer = none → exec .releaseTimerExpiry s = .next s) ∧
  (∀ (p : Port) (s : State), (s.comms.port p).inFlight = none → exec (.transmitComplete p) s = .next s) ∧
  (∀ (straps : Straps) (s : State), s.restart = none → exec (.endOfRestart straps) s = .next s)

/-! ### Ports -/

/-- At a transmit complete the frame in flight leaves its queue, the rest keep their order, and the arbiter makes the
next grant (R19). While a restart is pending, a BULK frame of W so sent brings the REPLY of RESTART one place nearer, and
the REPLY itself enters the warm restart (R199), which END_OF_RESTART then ends (log entry 9). -/
def Obligations.TransmitCompleteSendsHead : Prop :=
  ∀ (p : Port) (c : QueueClass) (s : State), s.restart = none → (s.comms.port p).inFlight = some c →
    let u := s.comms.port p
    let sent : State := { s with comms := s.comms.setPort p (PortUnit.grant s.env { u with
      urgent := if c = .urgent then u.urgent.drop 1 else u.urgent
      routine := if c = .routine then u.routine.drop 1 else u.routine
      bulk := if c = .bulk then u.bulk.drop 1 else u.bulk
      inFlight := none }) }
    ((p ≠ .w ∨ c ≠ .bulk ∨ s.replyWait = none) → exec (.transmitComplete p) s = .next sent) ∧
    (p = .w → c = .bulk → s.replyWait = some 0 → exec (.transmitComplete p) s =
      .next { sent with restart := some .warm, replyWait := none }) ∧
    (∀ n, p = .w → c = .bulk → s.replyWait = some (n + 1) →
      exec (.transmitComplete p) s = .next { sent with replyWait := some n })

/-- The arbiter grants only on an idle UP port that holds a frame, by the first of the five tests that holds, and sets
the passed-over counts (R16, R17). -/
def Obligations.ArbiterGrantsByFiveTests : Prop :=
  ∀ (e : Env) (p : PortUnit),
    (p.link = .up → p.inFlight = none → (p.urgent ≠ [] ∨ p.routine ≠ [] ∨ p.bulk ≠ []) →
      ∃ c : QueueClass,
        c = (if p.routine ≠ [] ∧ e.patienceRoutine ≤ p.passedRoutine then .routine
          else if p.bulk ≠ [] ∧ e.patienceBulk ≤ p.passedBulk then .bulk
          else if p.urgent ≠ [] then .urgent
          else if p.routine ≠ [] then .routine else .bulk) ∧
        p.grant e = { p with
          inFlight := some c
          passedRoutine := if c = .routine then 0
            else if c = .urgent ∧ p.routine ≠ [] then min 63 (p.passedRoutine + 1) else p.passedRoutine
          passedBulk := if c = .bulk then 0
            else if p.bulk ≠ [] then min 63 (p.passedBulk + 1) else p.passedBulk }) ∧
    ((p.link = .down ∨ p.inFlight ≠ none ∨ (p.urgent = [] ∧ p.routine = [] ∧ p.bulk = [])) → p.grant e = p)

/-- An offer to URGENT replaces the waiting frame of its key in place, joins at the tail below 16 frames, or is
discarded, counted and told. Frames have the same key when they have the same kind and channel and, for COUPLE-CMD, the
same sub-index byte (R12, R13). -/
def Obligations.UrgentOfferCoalesces : Prop :=
  (∀ f g : Frame, keyOf f = keyOf g ↔ f.id = g.id ∧ (f.id.toNat / 64 = 4 → f.data.head? = g.data.head?)) ∧
  ∀ (p : Port) (f : Frame) (s : State),
    (∀ (front : List Frame) (g : Frame) (back : List Frame),
      (s.comms.port p).urgentWaiting = front ++ g :: back → keyOf g = keyOf f →
      (∀ h ∈ front ++ back, keyOf h ≠ keyOf f) →
      s.offerUrgent p f = s.onPort p fun u => { u with urgent := u.urgentInFlight ++ (front ++ f :: back) }) ∧
    ((∀ h ∈ (s.comms.port p).urgentWaiting, keyOf h ≠ keyOf f) → (s.comms.port p).urgent.length < 16 →
      s.offerUrgent p f = s.onPort p fun u => PortUnit.grant s.env { u with urgent := u.urgent ++ [f] }) ∧
    ((∀ h ∈ (s.comms.port p).urgentWaiting, keyOf h ≠ keyOf f) → 16 ≤ (s.comms.port p).urgent.length →
      s.offerUrgent p f = (s.onPort p fun u => { u with frameLoss := min 65535 (u.frameLoss + 1) }).raise
        .frameLoss (portNum p))

/-- An offer to ROUTINE or BULK joins at the tail of an UP port below its capacity, 16 or 8, and is otherwise discarded,
counted and told with the port's number, W 0, M 1, T 2 (R11, R21). -/
def Obligations.LowOfferJoinsOrCounts : Prop :=
  (portNum .w = 0 ∧ portNum .m = 1 ∧ portNum .t = 2) ∧
  ∀ (p : Port) (f : Frame) (s : State),
    ((s.comms.port p).link = .up → (s.comms.port p).routine.length < 16 →
      s.offerLow p .routine f
        = s.onPort p fun u => PortUnit.grant s.env { u with routine := u.routine ++ [f] }) ∧
    ((s.comms.port p).link = .up → (s.comms.port p).bulk.length < 8 →
      s.offerLow p .bulk f = s.onPort p fun u => PortUnit.grant s.env { u with bulk := u.bulk ++ [f] }) ∧
    (∀ cls : LowClass, ((s.comms.port p).link = .down ∨
        (cls = .routine ∧ 16 ≤ (s.comms.port p).routine.length) ∨
        (cls = .bulk ∧ 8 ≤ (s.comms.port p).bulk.length)) →
      s.offerLow p cls f = (s.onPort p fun u => { u with frameLoss := min 65535 (u.frameLoss + 1) }).raise
        .frameLoss (portNum p))

/-- A raise sets the last index and the flag; it builds a NOTICE for W's BULK queue only when the flag rises while the
kind is enabled; a refused NOTICE is counted on W and raises FRAME_LOSS with index 0 (R196). The kinds are numbered as in
section 10.8. -/
def Obligations.NoticeRaiseTellsOnce : Prop :=
  ([NoticeKind.stationTransfer, .leverLost, .helmLost, .actuatorFault, .derateRaised, .derateLowered, .couplingOverload,
    .couplingStale, .couplingParted, .releaseDone, .releaseAborted, .releaseFailed, .meterGlitch, .flowWithoutRun,
    .tankReserve, .tankShortfall, .snapshotRenewed, .frameLoss, .portDown, .tableRejected].map fun k =>
      (noticeNum k).val) = List.range 20 ∧
  ∀ (k : NoticeKind) (i : Nat) (s : State),
    let told : State := { s with comms := { s.comms with
      notices := put s.comms.notices (noticeNum k) { flag := true, last := i } } }
    let notice := frameOf 14 s.channel.toNat [BitVec.ofNat 8 (noticeNum k).val, BitVec.ofNat 8 i]
    ((s.comms.notices[noticeNum k].flag = true ∨ s.params.noticeEnable.getLsbD (noticeNum k).val = false) →
      s.raise k i = told) ∧
    (s.comms.notices[noticeNum k].flag = false → s.params.noticeEnable.getLsbD (noticeNum k).val = true →
      s.comms.w.link = .up → s.comms.w.bulk.length < 8 →
      s.raise k i = told.onPort .w fun u => PortUnit.grant s.env { u with bulk := u.bulk ++ [notice] }) ∧
    (s.comms.notices[noticeNum k].flag = false → s.params.noticeEnable.getLsbD (noticeNum k).val = true →
      (s.comms.w.link = .down ∨ 8 ≤ s.comms.w.bulk.length) →
      s.raise k i
        = (told.onPort .w fun u => { u with frameLoss := min 65535 (u.frameLoss + 1) }).raise .frameLoss 0)

/-- At a link lost the port goes DOWN, the abandoned URGENT frame stays unless a waiting frame has its key, ROUTINE and
BULK are emptied and counted, and FRAME_LOSS and PORT_DOWN are raised (R20); a REPLY of RESTART lost with W's queue enters
the warm restart (R199). At a link restored the port goes UP and the arbiter grants (R22). That END_OF_RESTART ends that
restart is the model's reading (log entry 9); that a LINK_LOST on a DOWN port and a LINK_RESTORED on an UP port act by
the same rules is its choice (log entry 3). -/
def Obligations.LinkLostAndRestored : Prop :=
  ∀ (p : Port) (s : State), s.restart = none →
    let u := s.comms.port p
    let down : PortUnit :=
      { u with
        link := .down
        urgent :=
          match u.inFlight, u.urgent with
          | some .urgent, f :: rest => if rest.any (fun g => keyOf g = keyOf f) then rest else f :: rest
          | _, l => l
        routine := [], bulk := [], inFlight := none, passedRoutine := 0, passedBulk := 0
        frameLoss := min 65535 (u.frameLoss + (u.routine.length + u.bulk.length)) }
    let s1 := s.onPort p fun _ => down
    let s2 := if u.routine = [] ∧ u.bulk = [] then s1 else s1.raise .frameLoss (portNum p)
    let s3 := s2.raise .portDown (portNum p)
    exec (.linkLost p) s = .next (if p = .w ∧ s.replyWait ≠ none then
      { s3 with restart := some .warm, replyWait := none } else s3) ∧
    exec (.linkRestored p) s = .next (s.onPort p fun u => PortUnit.grant s.env { u with link := .up })

/-- Every step keeps the ports sound: queues within their capacities, at most one waiting URGENT frame for a key, no
idle UP port that holds a frame, no ROUTINE or BULK frame and no frame in flight on a DOWN port (R10, R12, R15, R16,
R20, R21, R23). -/
def Obligations.EveryStepKeepsPorts : Prop :=
  ∀ s t : State, s.portsSound = true → step s = .next t → t.portsSound = true

/-! ### Forwarding and classification -/

/-- The first matching entry of a READY ROUTE table decides; with none, or with ROUTE not READY, the receiving port's
default does; a PASS places a copy on each other port of the egress set (R7, R8, R9; the codes of R189). The order
W, M, T of the copies is the model's choice (log entry 5). -/
def Obligations.RouteTableForwards : Prop :=
  ∀ (p : Port) (f : Frame) (s : State),
    let w (i k : Nat) : Nat := s.entryWord .route i k
    let hit (i : Nat) : Prop :=
      (2 < w i 0 ∨ w i 0 = portNum p) ∧ (31 < w i 1 ∨ w i 1 = kindOf f) ∧
      w i 2 ≤ channelOf f ∧ channelOf f ≤ w i 3
    let copy (egress : BitVec 3) (cls : LowClass) (q : Port) (t : State) : State :=
      if q ≠ p ∧ egress.getLsbD (portNum q) = true then t.offerLow q cls f else t
    let pass (egress : BitVec 3) (cls : LowClass) : State :=
      copy egress cls .t (copy egress cls .m (copy egress cls .w s))
    (∀ i, s.ready .route = true → i < (s.table .route).count → hit i → (∀ k < i, ¬hit k) →
      s.forward p f = if w i 4 = 1 then s
        else pass (BitVec.ofNat 3 (w i 5)) (if w i 6 = 1 then .bulk else .routine)) ∧
    ((s.ready .route = false ∨ ∀ i < (s.table .route).count, ¬hit i) →
      s.forward p f = pass (s.params.defaultOf p).egress (s.params.defaultOf p).cls)

/-- A received frame of an interpreted kind on its port is the event of its own row (R1, R2). An MGMT frame of two or
more bytes received on an UP port W on the management channel is the command its code names, with its tag and arguments
(R6, R193, R203). -/
def Obligations.FrameReceivedIsItsRow : Prop :=
  (∀ (ch : BitVec 6) (data : List Byte) (s : State),
    exec (.frameReceived .w (frameOf 5 ch.toNat data)) s = exec (.lever ch data) s ∧
    exec (.frameReceived .w (frameOf 6 ch.toNat data)) s = exec (.helm ch data) s ∧
    exec (.frameReceived .m (frameOf 7 ch.toNat data)) s = exec (.govReport ch data) s ∧
    exec (.frameReceived .m (frameOf 8 ch.toNat data)) s = exec (.rudReport .m ch data) s ∧
    exec (.frameReceived .t (frameOf 8 ch.toNat data)) s = exec (.rudReport .t ch data) s ∧
    exec (.frameReceived .t (frameOf 9 ch.toNat data)) s = exec (.coupleReport ch data) s ∧
    exec (.frameReceived .w (frameOf 10 ch.toNat data)) s = exec (.take ch data) s ∧
    exec (.frameReceived .m (frameOf 11 ch.toNat data)) s = exec (.flow ch data) s ∧
    exec (.frameReceived .w (frameOf 13 ch.toNat data)) s = exec (.watch ch data) s) ∧
  (∀ (tag code : Byte) (args : List Byte) (s : State), s.comms.w.link = .up →
    exec (.frameReceived .w (frameOf 15 s.channel.toNat (tag :: code :: args))) s =
      exec (match code.toNat with
        | 0x01 => .tableOpen tag args
        | 0x02 => .tableWrite tag args
        | 0x03 => .tableClose tag args
        | 0x04 => .tableReadSeek tag args
        | 0x05 => .tableRead tag args
        | 0x06 => .tableState tag args
        | 0x10 => .setParam tag args
        | 0x11 => .getParam tag args
        | 0x20 => .recordRead tag args
        | 0x21 => .counterRead tag args
        | 0x22 => .noticeClear tag args
        | 0x30 => .snapCapture tag args
        | 0x31 => .snapRead tag args
        | 0x32 => .bunker tag args
        | 0x33 => .transfer tag args
        | 0x40 => .coupleRelease tag args
        | 0x41 => .coupleDetach tag args
        | 0x42 => .coupleAttach tag args
        | 0x43 => .pollNow tag args
        | 0x50 => .actuatorReset tag args
        | 0x7F => .restartCommand tag args
        | _ => .unknownCommand tag code args) s)

/-- A frame that is not interpreted on its port is offered to the route table only (R3); a malformed one is counted on
its port and offered to the route table, except an MGMT frame on the management channel, which is only counted
(R4, R6). The kind is the identifier divided by 64 and the channel the remainder (R2). -/
def Obligations.OtherFramesForwardedOrCounted : Prop :=
  (∀ f : Frame, kindOf f = f.id.toNat / 64 ∧ channelOf f = f.id.toNat % 64) ∧
  ∀ (p : Port) (f : Frame) (s : State), s.hears p →
    let interpreted (least : Nat) : Prop :=
      (p = .w ∧ (kindOf f = 5 ∧ least = 4 ∨ kindOf f = 6 ∧ least = 3 ∨ kindOf f = 10 ∧ least = 2 ∨
        kindOf f = 13 ∧ least = 1)) ∨
      (p = .m ∧ (kindOf f = 7 ∧ least = 3 ∨ kindOf f = 8 ∧ least = 2 ∨ kindOf f = 11 ∧ least = 4)) ∨
      (p = .t ∧ (kindOf f = 8 ∧ least = 2 ∨ kindOf f = 9 ∧ least = 4))
    let management : Prop := p = .w ∧ kindOf f = 15 ∧ channelOf f = s.channel.toNat
    let counted := s.onPort p fun u => { u with malformed := min 65535 (u.malformed + 1) }
    ((∀ least, ¬interpreted least) → ¬management → exec (.frameReceived p f) s = .next (s.forward p f)) ∧
    (∀ least, interpreted least → f.data.length < least →
      exec (.frameReceived p f) s = .next (counted.forward p f)) ∧
    (management → f.data.length < 2 → exec (.frameReceived p f) s = .next counted)

/-! ### Stations -/

/-- An accepted LEVER sets its station's shadows for the engines its selector names, clamped; from the command station
the demands too, and each named channel becomes LIVE with its freshness timer reloaded (R28, R72). That the frame is
forwarded after its interpretation is the model's choice (log entry 4), here and in the other frame statements. -/
def Obligations.LeverSetsShadowsAndDemands : Prop :=
  ∀ (ch : BitVec 6) (data : List Byte) (i : Fin 4) (s : State), s.hears .w → 4 ≤ data.length →
    s.stationFor ch.toNat = some i → s.station.records[i].seqLever ≠ some (min (byteAt data 0) 15) →
    let pos : Int := max (-1024) (min 1024 (s16At data 2))
    let named (e : Fin 4) : Prop := byteAt data 1 = 255 ∨ e.val = min (byteAt data 1) 3
    let set (v : Vector Int 4) : Vector Int 4 := remap v fun e old => if named e then pos else old
    let r := s.station.records[i]
    let records := put s.station.records i
      { r with seqLever := some (min (byteAt data 0) 15), lever := set r.lever }
    let live (e : Fin 4) (c : Option EngineChannel) : Option EngineChannel :=
      if named e then c.map fun x =>
        { x with fresh := .live, freshTimer := some s.params.leverTimeout, holdTimer := none }
      else c
    exec (.lever ch data) s = .next (State.forward .w (frameOf 5 ch.toNat data)
      (if i = s.station.command then
        { s with station := { s.station with records := records, lever := set s.station.lever },
                 prop := { s.prop with channels := remap s.prop.channels live } }
      else { s with station := { s.station with records := records } }))

/-- An accepted HELM sets its station's helm shadow; from the command station the helm demand too, with the helm timer
reloaded and LIVE, and a release whose set holds HELM_OFF_CENTRE is aborted when the demand exceeds CENTRE_WINDOW
(R29, R95, R139). That the abort's frames are offered before the HELM frame's copies is the model's choice (log
entry 4). -/
def Obligations.HelmSetsShadowAndDemand : Prop :=
  ∀ (ch : BitVec 6) (data : List Byte) (i : Fin 4) (s : State), s.hears .w → 3 ≤ data.length →
    s.stationFor ch.toNat = some i → s.station.records[i].seqHelm ≠ some (min (byteAt data 0) 15) →
    let v : Int := max (-450) (min 450 (s16At data 1))
    let records := put s.station.records i
      { s.station.records[i] with seqHelm := some (min (byteAt data 0) 15), helm := v }
    let t : State := { s with
      station := { s.station with records := records, helm := v }
      steer := { s.steer with helmFresh := .live, helmTimer := some s.params.helmTimeout } }
    (i ≠ s.station.command → exec (.helm ch data) s = .next (State.forward .w (frameOf 6 ch.toNat data)
      { s with station := { s.station with records := records } })) ∧
    (i = s.station.command →
      (∀ k, s.coup.slot = some k → (s.couplingEntry k).hasLock .helmOffCentre = true →
        v.natAbs ≤ s.params.centreWindow) →
      exec (.helm ch data) s = .next (State.forward .w (frameOf 6 ch.toNat data) t)) ∧
    (∀ k, i = s.station.command → s.coup.slot = some k →
      (s.couplingEntry k).hasLock .helmOffCentre = true → s.params.centreWindow < v.natAbs →
      exec (.helm ch data) s = .next (State.forward .w (frameOf 6 ch.toNat data) (t.abortRelease k)))

/-- An accepted TAKE is refused from the command station or with the release slot OCCUPIED, and granted when forced by
station 0 or when the shadows match; a grant moves the command record, the demands and the freshness of every channel
and of the helm, and raises STATION_TRANSFER (R32, R33, R34). That its NOTICE is offered before the TAKE frame's copies is
the model's choice (log entry 4). -/
def Obligations.TakeMovesCommand : Prop :=
  ∀ (ch : BitVec 6) (data : List Byte) (i : Fin 4) (s : State), s.hears .w → 2 ≤ data.length →
    s.stationFor ch.toNat = some i → s.station.records[i].seqTake ≠ some (min (byteAt data 0) 15) →
    let r := s.station.records[i]
    let c := s.station.records[s.station.command]
    let stored : State := { s with station := { s.station with
      records := put s.station.records i { r with seqTake := some (min (byteAt data 0) 15) } } }
    let matching : Prop :=
      (∀ e : Fin 4, s.engineEnabled e = true → (r.lever[e] - c.lever[e]).natAbs ≤ s.params.matchWindow) ∧
      (r.helm - c.helm).natAbs ≤ 2 * s.params.centreWindow
    let granted : Prop := i ≠ s.station.command ∧ s.coup.slot = none ∧
      (i = 0 ∧ byteAt data 1 ≠ 0 ∨ matching)
    let t : State := { stored with
      station := { stored.station with command := i, lever := r.lever, helm := r.helm }
      prop := { s.prop with channels := remap s.prop.channels fun _ x => x.map fun y =>
        { y with fresh := .live, freshTimer := some s.params.leverTimeout, holdTimer := none } }
      steer := { s.steer with helmFresh := .live, helmTimer := some s.params.helmTimeout } }
    (granted → exec (.take ch data) s = .next (State.forward .w (frameOf 10 ch.toNat data)
      (t.raise .stationTransfer i.val))) ∧
    (¬granted → exec (.take ch data) s = .next (State.forward .w (frameOf 10 ch.toNat data) stored))

/-- A LEVER, HELM, TAKE or WATCH of its kind's least length or more belongs to the enabled station of lowest index with
its channel, an entry being enabled as R25 says. One whose sequence equals the stored one of its kind only raises its
station's repeat counter, and one of no enabled station touches no record (R25, R26, R27; the lengths of R2). -/
def Obligations.RepeatsAndStrangersIgnored : Prop :=
  ∀ s : State,
    let x := s.table .station
    let w (i : Fin 4) (k : Nat) : Nat := (x.words.getD (i.val * 3 + k) 0).toNat
    let enabled (i : Fin 4) : Prop := x.state = .ready ∧ i.val < x.count ∧ w i 0 ≠ 0
    (∀ i, s.stationEnabled i = true ↔ enabled i) ∧
    (∀ (ch : Nat) (i : Fin 4), s.stationFor ch = some i ↔
      enabled i ∧ w i 1 = ch ∧ ∀ k < i, ¬(enabled k ∧ w k 1 = ch)) ∧
    (∀ (ch : BitVec 6) (data : List Byte), s.hears .w →
      let q := min (byteAt data 0) 15
      let counted (i : Fin 4) : State := { s with station := { s.station with
        records := put s.station.records i
          { s.station.records[i] with repeats := min 65535 (s.station.records[i].repeats + 1) } } }
      let out (kind : Nat) (t : State) := Host.Outcome.next (φ := Fault) (ρ := Refusal)
        (State.forward .w (frameOf kind ch.toNat data) t)
      (∀ i, s.stationFor ch.toNat = some i →
        (4 ≤ data.length → s.station.records[i].seqLever = some q → exec (.lever ch data) s = out 5 (counted i)) ∧
        (3 ≤ data.length → s.station.records[i].seqHelm = some q → exec (.helm ch data) s = out 6 (counted i)) ∧
        (2 ≤ data.length → s.station.records[i].seqTake = some q → exec (.take ch data) s = out 10 (counted i)) ∧
        (1 ≤ data.length → s.station.records[i].seqWatch = some q →
          exec (.watch ch data) s = out 13 (counted i))) ∧
      (s.stationFor ch.toNat = none →
        (4 ≤ data.length → exec (.lever ch data) s = out 5 s) ∧
        (3 ≤ data.length → exec (.helm ch data) s = out 6 s) ∧
        (2 ≤ data.length → exec (.take ch data) s = out 10 s) ∧
        (1 ≤ data.length → exec (.watch ch data) s = out 13 s)))

/-- Every step keeps the command station's shadows equal to the demands (R30). -/
def Obligations.EveryStepKeepsShadows : Prop :=
  ∀ s t : State, s.stationsSound = true → step s = .next t → t.stationsSound = true

/-! ### Engine reports -/

/-- A GOV-REPORT is stored by every channel whose entry names its channel number. Then a follower of an active group
steps its trim by SYNC_STEP toward the lead's reported rpm, within SYNC_LIMIT, when both have reported the group's gear
(R76, R78, R80). -/
def Obligations.GovReportStoresAndTrims : Prop :=
  ∀ (ch : BitVec 6) (data : List Byte) (s : State), s.hears .m → 3 ≤ data.length →
    let rpm := min 3000 (u16At data 0)
    let gear : Direction :=
      if byteAt data 2 = 0 then .neutral else if byteAt data 2 = 1 then .ahead else .astern
    let group (e : Fin 4) : Nat := (s.engineEntry e).group
    let takes (e : Fin 4) : Prop := (s.engineEntry e).channel = ch.toNat
    let stored (e : Fin 4) : Option EngineChannel := s.prop.channels[e].map fun x =>
      if takes e then { x with repRpm := rpm, repGear := gear, reported := true } else x
    let lead (g : Nat) : Option (Fin 4) :=
      (List.finRange 4).find? fun k => (s.prop.channels[k]).isSome && decide (group k = g)
    let active (g : Nat) : Option Direction :=
      if g = 1 then s.prop.sync1 else if g = 2 then s.prop.sync2 else none
    let trim (e : Fin 4) (x : EngineChannel) : Int :=
      match lead (group e), active (group e) with
      | some k, some dir =>
        match stored k with
        | some y =>
          if takes e ∧ k ≠ e ∧ y.reported = true ∧ x.reported = true ∧ y.repGear = dir ∧ x.repGear = dir then
            max (-(s.params.syncLimit : Int)) (min s.params.syncLimit
              (if x.repRpm < y.repRpm then x.trim + s.params.syncStep
               else if y.repRpm < x.repRpm then x.trim - s.params.syncStep else x.trim))
          else x.trim
        | none => x.trim
      | _, _ => x.trim
    let channels := Vector.ofFn fun e : Fin 4 =>
      (stored e).map fun x => ({ x with trim := trim e x } : EngineChannel)
    exec (.govReport ch data) s = .next (State.forward .m (frameOf 7 ch.toNat data)
      { s with prop := { s.prop with channels := channels } })

/-! ### Steering reports -/

/-- A RUD-REPORT on M or T is taken by every actuator whose entry names the port and channel: ALIGN passes to FOLLOWING
with the reported value, clamped, as output (R98); FOLLOWING counts reports outside FOLLOW_WINDOW in a row and goes to
FAULT at FOLLOW_COUNT, raising ACTUATOR_FAULT in index order (R99). Where the alignment of a BOW actuator off 0 makes
BOW_ACTIVE come about while it is an interlock of a release in hand, the release is aborted (R104, R139). The last clause
states it all for any number of actuators taking the report, in index order, each on what those before it have left,
which is the model's choice (log entry 20), as is the forwarding after all of it (log entry 4). -/
def Obligations.RudReportAlignsAndSupervises : Prop :=
  ∀ (p : Port) (ch : BitVec 6) (data : List Byte) (s : State), s.hears p → p ≠ .w → 2 ≤ data.length →
    let v : Int := max (-1000) (min 1000 (s16At data 0))
    let x (j : Fin 8) : ActuatorEntry := s.actuatorEntry j
    let takes (j : Fin 8) : Prop := (x j).port = p ∧ (x j).channel = ch.toNat
    let count (a : Actuator) : Nat :=
      if s.params.followWindow < (v - a.output).natAbs then min 255 (a.count + 1) else 0
    let out (j : Fin 8) : Int := max (-((x j).limit : Int)) (min ((x j).limit : Int) v)
    let after (j : Fin 8) (a : Actuator) : Actuator :=
      match a.state with
      | .align =>
        { state := .following, output := out j, remainder := 0, ramp := .none, count := 0,
          target := if (x j).kind = .flanking ∧ s.inAstern (x j).engine = false then 0 else out j,
          lastReported := v, reported := true }
      | .following =>
        { a with lastReported := v, reported := true, count := count a,
                 state := if s.params.followCount ≤ count a then .fault else .following }
      | .fault => { a with lastReported := v, reported := true }
      | .gated => { a with lastReported := v, reported := true }
    let actuators := remap s.steer.actuators fun j a => if takes j then a.map (after j) else a
    let stored : State := { s with steer := { s.steer with actuators := actuators } }
    let fails (j : Fin 8) : Bool :=
      match s.steer.actuators[j] with
      | some a => decide (takes j ∧ a.state = .following ∧ s.params.followCount ≤ count a)
      | none => false
    let told : State :=
      ((List.finRange 8).filter fails).foldl (fun t j => t.raise .actuatorFault j.val) stored
    let frame := frameOf 8 ch.toNat data
    ((∀ i, s.coup.slot = some i → (s.couplingEntry i).hasLock .bowActive = true →
        ∀ (k : Fin 8) (a : Actuator), takes k → s.steer.actuators[k] = some a → a.state = .align →
          (x k).kind = .bow → out k = 0) →
      exec (.rudReport p ch data) s = .next (told.forward p frame)) ∧
    (∀ (i : Fin 48) (j : Fin 8) (a : Actuator), s.coup.slot = some i →
      (s.couplingEntry i).hasLock .bowActive = true → s.bowActive = false →
      takes j → (∀ k, takes k → k = j) → s.steer.actuators[j] = some a → a.state = .align →
      (x j).kind = .bow → out j ≠ 0 →
      exec (.rudReport p ch data) s = .next ((stored.abortRelease i).forward p frame)) ∧
    (let turn (t : State) (j : Fin 8) : State :=
        match t.steer.actuators[j] with
        | none => t
        | some a =>
          let with_ : State :=
            { t with steer := { t.steer with actuators := put t.steer.actuators j (some (after j a)) } }
          if ¬takes j then t
          else if a.state = .align ∧ t.bowActive = false ∧ with_.bowActive = true then with_.checkLock .bowActive
          else if a.state = .following ∧ s.params.followCount ≤ count a then with_.raise .actuatorFault j.val
          else with_
      exec (.rudReport p ch data) s = .next (((List.finRange 8).foldl turn s).forward p frame))

/-! ### Coupling reports -/

/-- A COUPLE-REPORT with pin ENGAGED sets the record's age, tension and pin; RELEASED keeps its state; RELEASING keeps it
too, but aborts the release when UNDER_LOAD is an interlock and the tension reaches slack; any other state is classified
with hysteresis, entering OVERLOAD raises COUPLING_OVERLOAD, and a change of state goes on to the derate and the
steering unit (R115, R117, R118, R123, R139). A report that matches no record is only forwarded (R115). The first clause
is the entry in use (R109). That notices and HOLD are offered before the frame's copies is the model's choice (log
entry 4). -/
def Obligations.EngagedReportClassifies : Prop :=
  (∀ (k : Fin 48) (s : State),
    let w (j : Nat) : Nat := ((s.table .coupling).words.getD (k.val * 10 + j) 0).toNat
    let x := s.couplingEntry k
    x.channel = min 63 (w 1) ∧ x.sub = min 3 (w 2) ∧
    x.kind = (if w 3 = 1 then .foreAft else if w 3 = 2 then .side else if w 3 = 3 then .bowBoat else .face) ∧
    x.crit = max 1 (min 3 (w 4)) ∧ x.slack = w 5 ∧ x.top = w 6 ∧ x.hyst = min 500 (w 7) ∧
    (x.powered = true ↔ w 8 ≠ 0) ∧ x.locks.toNat = w 9 ∧
    (s.couplingEnabled k = true ↔ (s.table .coupling).state = .ready ∧ k.val < (s.table .coupling).count ∧ w 0 ≠ 0)) ∧
  (∀ (ch : BitVec 6) (data : List Byte) (s : State), s.hears .t → 4 ≤ data.length →
      let frame := frameOf 9 ch.toNat data
      let named (k : Fin 48) : Prop := s.coup.records[k] ≠ none ∧ (s.couplingEntry k).channel = ch.toNat ∧
        (s.couplingEntry k).sub = min 3 (byteAt data 0)
      ((∀ k, ¬named k) → exec (.coupleReport ch data) s = .next (s.forward .t frame)) ∧
      (∀ (i : Fin 48) (r : CouplingRecord), named i → (∀ k < i, ¬named k) → s.coup.records[i] = some r →
        byteAt data 3 = 0 →
        let tension := min 4000 (u16At data 1)
        let x := s.couplingEntry i
        let with_ (st : CouplingState) : State :=
          let x : CouplingRecord := { state := st, tension := tension, pinOpen := false, age := 0 }
          { s with coup := { s.coup with records := put s.coup.records i (some x) } }
        let st : CouplingState :=
          if x.top < tension then .overload
          else if r.state = .overload ∧ (x.top : Int) - x.hyst < tension then .overload
          else if tension < x.slack then .slack
          else if r.state = .slack ∧ tension < x.slack + x.hyst then .slack
          else .made
        (r.state = .released → exec (.coupleReport ch data) s = .next ((with_ .released).forward .t frame)) ∧
        (r.state = .releasing → s.coup.slot = some i →
          exec (.coupleReport ch data) s = .next (State.forward .t frame
            (if x.hasLock .underLoad = true ∧ x.slack ≤ tension then (with_ .releasing).abortRelease i
             else with_ .releasing))) ∧
        (r.state ≠ .released → r.state ≠ .releasing → st = r.state →
          exec (.coupleReport ch data) s = .next ((with_ st).forward .t frame)) ∧
        (r.state ≠ .released → r.state ≠ .releasing → st ≠ r.state →
          exec (.coupleReport ch data) s = .next (State.forward .t frame
            (if st = .overload then (with_ st).raise .couplingOverload i.val else with_ st).afterChange))))

/-- A COUPLE-REPORT with pin DISENGAGED completes the release of a RELEASING record: RELEASED, slot EMPTY, timer stopped,
derate and steering told, RELEASE_DONE (R138). A RELEASED or PARTED record keeps its state; any other becomes PARTED
with COUPLING_PARTED (R116). That the notices are offered before the frame's copies is the model's choice (log
entry 4). -/
def Obligations.OpenPinCompletesOrParts : Prop :=
  ∀ (ch : BitVec 6) (data : List Byte) (i : Fin 48) (r : CouplingRecord) (s : State), s.hears .t →
    4 ≤ data.length →
    let named (k : Fin 48) : Prop := s.coup.records[k] ≠ none ∧ (s.couplingEntry k).channel = ch.toNat ∧
      (s.couplingEntry k).sub = min 3 (byteAt data 0)
    named i → (∀ k < i, ¬named k) → s.coup.records[i] = some r → byteAt data 3 ≠ 0 →
      let with_ (st : CouplingState) : State :=
        let x : CouplingRecord := { state := st, tension := min 4000 (u16At data 1), pinOpen := true, age := 0 }
        { s with coup := { s.coup with records := put s.coup.records i (some x) } }
      let done : State :=
        { with_ .released with coup := { (with_ .released).coup with slot := none, releaseTimer := none } }
      exec (.coupleReport ch data) s = .next (State.forward .t (frameOf 9 ch.toNat data)
        (if r.state = .releasing then done.afterChange.raise .releaseDone i.val
         else if r.state = .released ∨ r.state = .parted then with_ r.state
         else ((with_ .parted).raise .couplingParted i.val).afterChange))

/-! ### Derate level and bow gating -/

/-- The candidate is the greatest contribution of a record. When it is recomputed the derate level rises to it at once
with DERATE_RAISED, an equal candidate zeroes the hold counter, and a lower one changes nothing (R123, R124). At a hold
step a lower candidate counts up, and at DERATE_HOLD the level falls to it with DERATE_LOWERED (R125). What follows a
change of a record's state is that recomputation, then the telling of the steering unit (R123, R127). -/
def Obligations.DerateFollowsWorstCoupling : Prop :=
  ∀ (s : State) (w : Nat),
    let part (i : Fin 48) : Nat :=
      match s.coup.records[i] with
      | none => 0
      | some r =>
        match r.state with
        | .made => 0
        | .released => 0
        | .overload => min 3 ((s.couplingEntry i).crit + 1)
        | .parted => 3
        | _ => (s.couplingEntry i).crit
    s.afterChange = s.applyDerate.tellSteering ∧
    ((∀ i, part i ≤ w) → (w = 0 ∨ ∃ i, part i = w) →
    s.applyDerate =
      (if s.coup.level < w then
        ({ s with coup := { s.coup with level := w, hold := 0 } } : State).raise .derateRaised w
      else if w = s.coup.level then { s with coup := { s.coup with hold := 0 } } else s) ∧
    s.holdStep =
      (if s.coup.level ≤ w then s
      else if min 65535 (s.coup.hold + 1) < s.params.derateHold then
        { s with coup := { s.coup with hold := min 65535 (s.coup.hold + 1) } }
      else ({ s with coup := { s.coup with level := w, hold := 0 } } : State).raise .derateLowered w))

/-- When the steering unit is told of the coupling records, a BOW actuator whose coupling is not MADE is GATED with
target and output 0 and its waiting BOW-SET withdrawn, and a GATED one whose coupling is MADE returns to ALIGN with
output 0; every other actuator and everything else is unchanged (R102, R103). Reading the couplings as they stand is
the model's choice (log entry 11). -/
def Obligations.BowActuatorsFollowTheirCoupling : Prop :=
  ∀ s : State,
    let made (j : Fin 8) : Prop := ∃ r, s.coup.records[(s.actuatorEntry j).bow] = some r ∧ r.state = .made
    let still (st : ActuatorState) (a : Actuator) : Actuator :=
      { a with state := st, target := 0, output := 0, remainder := 0, ramp := .none, count := 0 }
    let gates (j : Fin 8) : Prop := (s.actuatorEntry j).kind = .bow ∧ ¬made j ∧
      ∃ a, s.steer.actuators[j] = some a ∧ a.state ≠ .gated
    ∃ (actuators : Vector (Option Actuator) 8) (waiting : List Frame),
      s.tellSteering = { s with
        steer := { s.steer with actuators := actuators }
        comms := { s.comms with t := { s.comms.t with urgent := s.comms.t.urgentInFlight ++ waiting } } } ∧
      (∀ j : Fin 8, s.steer.actuators[j] = none → actuators[j] = none) ∧
      (∀ (j : Fin 8) (a : Actuator), s.steer.actuators[j] = some a → (s.actuatorEntry j).kind ≠ .bow → actuators[j] = some a) ∧
      (∀ (j : Fin 8) (a : Actuator), s.steer.actuators[j] = some a → (s.actuatorEntry j).kind = .bow → made j →
        actuators[j] = some (if a.state = .gated then still .align a else a)) ∧
      (∀ (j : Fin 8) (a : Actuator), s.steer.actuators[j] = some a → (s.actuatorEntry j).kind = .bow → ¬made j →
        actuators[j] = some (if a.state = .gated then a else still .gated a)) ∧
      waiting.Sublist s.comms.t.urgentWaiting ∧
      (∀ f ∈ s.comms.t.urgentWaiting, f ∈ waiting ↔
        ¬∃ j, gates j ∧ keyOf f = keyOf (frameOf 3 (s.actuatorEntry j).channel []))

/-! ### Ends of a release and the poll timer -/

/-- A release aborted by an interlock of its coupling, and one whose timer expires, end alike: HOLD offered to T's URGENT
queue, slot EMPTY, timer stopped, the record classified afresh from its last report (PARTED with an open pin), derate
and steering told, then RELEASE_ABORTED or RELEASE_FAILED (R119, R134, R139, R140, R141). A condition that does not
hold, or is not of the coupling's set, changes nothing. -/
def Obligations.AbortAndTimeoutEndRelease : Prop :=
  ∀ (i : Fin 48) (r : CouplingRecord) (s : State), s.coup.slot = some i → s.coup.records[i] = some r →
    r.state = .releasing →
    let x := s.couplingEntry i
    let st : CouplingState :=
      if r.pinOpen then .parted else if x.top < r.tension then .overload
      else if r.tension < x.slack then .slack else .made
    let held := s.offerUrgent .t (frameOf 4 x.channel [BitVec.ofNat 8 x.sub, 2])
    let ended : State := { held with coup := { s.coup with
      records := put s.coup.records i (some { r with state := st }), slot := none, releaseTimer := none } }
    let told : State :=
      if st = .parted then ended.raise .couplingParted i.val
      else if st = .overload then ended.raise .couplingOverload i.val else ended
    (∀ c : Interlock, x.hasLock c = true → s.lockHolds i c = true →
      s.checkLock c = told.afterChange.raise .releaseAborted i.val) ∧
    (∀ c : Interlock, x.hasLock c = false ∨ s.lockHolds i c = false → s.checkLock c = s) ∧
    (s.restart = none → s.coup.releaseTimer ≠ none →
      exec .releaseTimerExpiry s = .next (told.afterChange.raise .releaseFailed i.val))

/-- A poll-timer expiry reloads its timer; with COUPLING READY it offers one COUPLE-POLL to T's ROUTINE queue, for the
first record not RELEASED from the walk pointer on, moves the pointer past it, and the ageing step and the hold step
follow (R110, R111, R112). -/
def Obligations.PollTimerWalksTheTow : Prop :=
  ∀ s : State, s.restart = none →
    let n := (s.table .coupling).count
    let start : State := { s with coup := { s.coup with pollTimer := s.params.pollInterval } }
    let polled (k : Nat) : Prop := ∃ (i : Fin 48) (r : CouplingRecord), i.val = k ∧
      s.coup.records[i] = some r ∧ r.state ≠ .released
    (s.ready .coupling = false → exec .pollTimerExpiry s = .next start) ∧
    (s.ready .coupling = true → (∀ k < n, ¬polled k) →
      exec .pollTimerExpiry s = .next start.ageStep.holdStep) ∧
    (∀ (i : Fin 48) (d : Nat), s.ready .coupling = true → d < n → i.val = (s.coup.walk + d) % n → polled i.val →
      (∀ d' < d, ¬polled ((s.coup.walk + d') % n)) →
      let frame := frameOf 12 (s.couplingEntry i).channel [BitVec.ofNat 8 (s.couplingEntry i).sub]
      let offered := start.offerLow .t .routine frame
      let moved : State := { offered with coup := { offered.coup with walk := (i.val + 1) % n } }
      exec .pollTimerExpiry s = .next moved.ageStep.holdStep)

/-- At the ageing step every record not RELEASED ages by one, up to 4095, and a MADE, SLACK or OVERLOAD record that
reaches STALE_LIMIT goes STALE; COUPLING_STALE is raised and the derate and steering told record by record in index
order (R113). Telling them per record is the model's choice (log entry 7). -/
def Obligations.AgeingMakesRecordsStale : Prop :=
  ∀ s : State,
    let age (r : CouplingRecord) : Nat := if r.state = .released then r.age else min 4095 (r.age + 1)
    let stale (r : CouplingRecord) : Prop :=
      (r.state = .made ∨ r.state = .slack ∨ r.state = .overload) ∧ s.params.staleLimit ≤ age r
    let aged := remap s.coup.records fun _ x => x.map fun r => ({ r with age := age r } : CouplingRecord)
    let gone : List (Fin 48) := (List.finRange 48).filter fun i =>
      match s.coup.records[i] with
      | some r => decide (stale r)
      | none => false
    let turn (t : State) (i : Fin 48) : State :=
      let records := put t.coup.records i (t.coup.records[i].map fun r => { r with state := .stale })
      (({ t with coup := { t.coup with records := records } } : State).raise .couplingStale i.val).afterChange
    s.ageStep = gone.foldl turn { s with coup := { s.coup with records := aged } } ∧
    s.ageStep.coup.records = remap s.coup.records fun _ x => x.map fun r =>
      ({ r with age := age r, state := if stale r then .stale else r.state } : CouplingRecord)

/-! ### Fuel -/

/-- A debit of d standard millilitres, d at least 1, falls on the balance and, beyond it, on the shortfall with
TANK_SHORTFALL (R168). A credit rises to the capacity in use and, beyond it, goes to the excess; a credit of 0 changes
nothing (R169). The reserve state is evaluated after both, and TANK_RESERVE raised when it becomes true (R170). A debit
of 0 changes nothing (R157, R173). The first clause is the entry in use (R167). -/
def Obligations.TankBookingsLoseNoFuel : Prop :=
  ∀ (t : Fin 8) (d : Nat) (r : TankRecord) (s : State), s.fuel.tanks[t] = some r →
    let w (k : Nat) : Nat := ((s.table .tank).words.getD (t.val * 7 + k) 0).toNat
    let x := s.tankEntry t
    let top := (s.tankEntry t).capacity * 1000
    let low (b : Nat) : Bool := decide (b < (s.tankEntry t).reserve * 1000)
    let held (x : TankRecord) : State := { s with fuel := { s.fuel with tanks := put s.fuel.tanks t (some x) } }
    let told (b : Nat) (u : State) : State := if low b ∧ r.reserve = false then u.raise .tankReserve t.val else u
    (x.capacity = min 2000000 (w 0 * 65536 + w 1) ∧ x.reserve = min x.capacity (w 2 * 65536 + w 3) ∧
      x.density = max 700 (min 1100 (w 4)) ∧ x.loaded = min x.capacity (w 5 * 65536 + w 6)) ∧
    s.debitTank t 0 = s ∧
    (1 ≤ d → d ≤ r.balance → s.debitTank t d = told (r.balance - d)
      (held { r with debits := r.debits + d, balance := r.balance - d, reserve := low (r.balance - d) })) ∧
    (r.balance < d → s.debitTank t d = told 0
      ((held { r with debits := r.debits + d, balance := 0, shortfall := r.shortfall + (d - r.balance),
                      reserve := low 0 }).raise .tankShortfall t.val)) ∧
    s.creditTank t 0 = s ∧
    (1 ≤ d → r.balance + d ≤ top → s.creditTank t d = told (r.balance + d)
      (held { r with credits := r.credits + d, balance := r.balance + d, reserve := low (r.balance + d) })) ∧
    (1 ≤ d → top < r.balance + d → s.creditTank t d = told top
      (held { r with credits := r.credits + d, balance := top, excess := r.excess + (r.balance + d - top),
                     reserve := low top }))

/-- A FLOW for the meter in service of lowest index with its channel, whose delta lies within the entry's greatest, is
converted by the two remainders and the temperature factor (R151, R153, R154, R155) and booked: to the engine total of
its role (R156), to its tank or else the unassigned accumulator (R157, R158), and FLOW_WITHOUT_RUN is raised for a SUPPLY
meter whose engine reports 0 rpm (R160). The first clause is the entry in use (R148). That the notices are offered
before the frame's copies is the model's choice (log entry 4). -/
def Obligations.FlowIsMeteredAndBooked : Prop :=
  ∀ (ch : BitVec 6) (data : List Byte) (i : Fin 8) (b : Nat) (s : State), s.hears .m → 4 ≤ data.length →
    let named (k : Fin 8) : Prop := s.meterInService k = true ∧ (s.meterEntry k).channel = ch.toNat
    let w (k : Nat) : Nat := ((s.table .meter).words.getD (i.val * 8 + k) 0).toNat
    let x := s.meterEntry i
    let r := s.fuel.meters[i]
    let delta := (u16At data 0 + 65536 - b) % 65536
    (x.channel = min 63 (w 1) ∧ x.k = max 100 (w 2) ∧ (x.isReturn = true ↔ w 3 = 1) ∧ x.engine.val = min 3 (w 4) ∧
      (∀ t : Fin 8, x.tank = some t ↔ w 5 = t.val) ∧ x.alpha = min 2000 (w 6) ∧ x.maxDelta = max 1 (w 7) ∧
      (s.meterInService i = true ↔ (s.table .meter).state = .ready ∧ i.val < (s.table .meter).count ∧ w 0 ≠ 0)) ∧
    (named i → (∀ k < i, ¬named k) → r.baseline = some b → delta ≤ x.maxDelta →
    let temp : Int := max (-200) (min 1000 (s16At data 2))
    let counts := delta * 100000 + r.ra
    let factor := (1000000 - ((x.alpha : Int) * (temp - 150)).tdiv 10).toNat
    let fine := counts / x.k * factor + r.rb
    let std := fine / 1000000
    let meters := put s.fuel.meters i { r with
      baseline := some (u16At data 0), temp := temp, ra := counts % x.k, rb := fine % 1000000, amount := std }
    let e := s.fuel.engines[x.engine]
    let engines := put s.fuel.engines x.engine
      (if x.isReturn then { e with ret := min (2 ^ 47 - 1) (e.ret + std) }
       else { e with supply := min (2 ^ 47 - 1) (e.supply + std) })
    let metered : State := { s with fuel := { s.fuel with meters := meters, engines := engines } }
    let booked : State :=
      match x.tank with
      | some t =>
        if s.ready .tank = true ∧ t.val < (s.table .tank).count then
          (if x.isReturn then metered.creditTank t std else metered.debitTank t std)
        else metered.bookUnassigned x std
      | none => metered.bookUnassigned x std
    let running : Nat := ((s.prop.channels[x.engine]).map fun c => c.repRpm).getD 0
    exec (.flow ch data) s = .next (State.forward .m (frameOf 11 ch.toNat data)
      (if x.isReturn = false ∧ s.params.runFlowLimit ≤ std ∧ running = 0 then
        booked.raise .flowWithoutRun x.engine.val
      else booked)) ∧
    metered.bookUnassigned x std = { metered with fuel := { metered.fuel with
      unassigned := max (-(2 ^ 47 - 1)) (min (2 ^ 47 - 1)
        (s.fuel.unassigned + if x.isReturn then (std : Int) else -std)) } })

/-- The first FLOW after an empty baseline only stores baseline and temperature (R150, R159); one whose delta exceeds the
entry's greatest books nothing, takes the new baseline, counts a glitch and raises METER_GLITCH (R152); a FLOW of no
meter in service is only forwarded (R149). That METER_GLITCH is offered before the frame's copies is the model's choice
(log entry 4). -/
def Obligations.FlowBaselineAndGlitch : Prop :=
  ∀ (ch : BitVec 6) (data : List Byte) (s : State), s.hears .m → 4 ≤ data.length →
    let frame := frameOf 11 ch.toNat data
    let named (k : Fin 8) : Prop := s.meterInService k = true ∧ (s.meterEntry k).channel = ch.toNat
    ((∀ k, ¬named k) → exec (.flow ch data) s = .next (s.forward .m frame)) ∧
    (∀ i : Fin 8, named i → (∀ k < i, ¬named k) →
      let r := s.fuel.meters[i]
      let taken (glitches : Nat) : State :=
        let x : MeterRecord := { r with baseline := some (u16At data 0), glitches := glitches,
                                        temp := max (-200) (min 1000 (s16At data 2)) }
        { s with fuel := { s.fuel with meters := put s.fuel.meters i x } }
      (r.baseline = none → exec (.flow ch data) s = .next ((taken r.glitches).forward .m frame)) ∧
      (∀ b, r.baseline = some b → (s.meterEntry i).maxDelta < (u16At data 0 + 65536 - b) % 65536 →
        exec (.flow ch data) s = .next (State.forward .m frame
          ((taken (min 65535 (r.glitches + 1))).raise .meterGlitch i.val))))

/-- BUNKER credits a tank record with litres and answers the balance and the litres that went to excess (R172);
TRANSFER debits the first tank by the litres named, or its balance when that is less, credits the second by as much, and
answers the litres moved and the excess (R173). Each names its refusals in turn. -/
def Obligations.BunkerAndTransferMoveFuel : Prop :=
  ∀ (tag : Byte) (args : List Byte) (s : State), s.listens →
    let tank (v : Nat) (t : Fin 8) : Prop := v = t.val ∧ s.fuel.tanks[t] ≠ none
    let balance (u : State) (t : Fin 8) : Nat := ((u.fuel.tanks[t]).map fun r => r.balance).getD 0
    let excess (u : State) (t : Fin 8) : Nat := ((u.fuel.tanks[t]).map fun r => r.excess).getD 0
    (4 ≤ args.length →
      (s.ready .tank = false → exec (.bunker tag args) s = .next (s.replied tag .badState [])) ∧
      (s.ready .tank = true → (∀ t, ¬tank (byteAt args 0) t) →
        exec (.bunker tag args) s = .next (s.replied tag .badIndex [])) ∧
      (∀ t, s.ready .tank = true → tank (byteAt args 0) t →
        let u := s.creditTank t (u24At args 1 * 1000)
        exec (.bunker tag args) s = .next (u.replied tag .ok
          (fieldOf 3 (balance u t / 1000) ++ fieldOf 3 ((excess u t - excess s t) / 1000))))) ∧
    (5 ≤ args.length →
      (s.ready .tank = false → exec (.transfer tag args) s = .next (s.replied tag .badState [])) ∧
      (s.ready .tank = true → ((∀ t, ¬tank (byteAt args 0) t) ∨ (∀ t, ¬tank (byteAt args 1) t)) →
        exec (.transfer tag args) s = .next (s.replied tag .badIndex [])) ∧
      (∀ a, s.ready .tank = true → tank (byteAt args 0) a → tank (byteAt args 1) a →
        exec (.transfer tag args) s = .next (s.replied tag .badValue [])) ∧
      (∀ a b, s.ready .tank = true → tank (byteAt args 0) a → tank (byteAt args 1) b → a ≠ b →
        let moved := min (u24At args 2 * 1000) (balance s a)
        let u := (s.debitTank a moved).creditTank b moved
        exec (.transfer tag args) s = .next (u.replied tag .ok
          (fieldOf 3 (moved / 1000) ++ fieldOf 3 ((excess u b - excess s b) / 1000)))))

/-- A capture raises the capture sequence, copies the account in litres and kilograms at one moment, and marks a HELD
buffer renewed, with SNAPSHOT_RENEWED (R178, R179, R180). SNAP-CAPTURE takes one and answers its sequence (R178). An
accepted WATCH takes one when it comes from the command station, and else stores its sequence only (R36). That the
notice of a capture is offered before the WATCH frame's copies is the model's choice (log entry 4). -/
def Obligations.CaptureCopiesTheAccount : Prop :=
  (∀ (why : CaptureReason) (s : State),
    let seq := (s.fuel.captureSeq + 1) % 65536
    let held := s.fuel.snapshot.isSome
    let tank (t : Fin 8) : Option TankRecord := s.fuel.tanks[t]
    let litres (v : Nat) : Nat := min 16777215 (v / 1000)
    let mass (e : Fin 4) : Nat :=
      match (s.engineEntry e).feedTank with
      | some t =>
        if s.ready .engine = true ∧ e.val < (s.table .engine).count ∧ s.ready .tank = true ∧
            t.val < (s.table .tank).count then
          min 16777215 ((s.fuel.engines[e].supply - s.fuel.engines[e].ret) * (s.tankEntry t).density / 1000000)
        else 0
      | none => 0
    let shortfalls : Nat := ((List.finRange 8).map fun t => ((tank t).map fun r => r.shortfall).getD 0).sum
    let capture : Capture :=
      { sequence := seq, reason := why, tanksPresent := Vector.ofFn fun t => (tank t).isSome,
        supply := Vector.ofFn fun e : Fin 4 => litres s.fuel.engines[e].supply,
        ret := Vector.ofFn fun e : Fin 4 => litres s.fuel.engines[e].ret, mass := Vector.ofFn mass,
        balance := Vector.ofFn fun t => ((tank t).map fun r => r.balance).getD 0 / 1000,
        unassigned := max (-8388608) (min 8388607 (s.fuel.unassigned.tdiv 1000)),
        shortfall := litres shortfalls }
    let taken : State := { s with fuel := { s.fuel with
      captureSeq := seq, snapshot := some { capture := capture, renewal := held } } }
    s.capture why = if held then taken.raise .snapshotRenewed (seq % 256) else taken) ∧
  (∀ (tag : Byte) (args : List Byte) (s : State), s.listens →
    exec (.snapCapture tag args) s = .next (State.replied tag .ok
      (fieldOf 2 ((s.fuel.captureSeq + 1) % 65536) ++ [flagByte s.fuel.snapshot.isSome]) (s.capture .mgmt))) ∧
  (∀ (ch : BitVec 6) (data : List Byte) (i : Fin 4) (s : State), s.hears .w → 1 ≤ data.length →
    s.stationFor ch.toNat = some i → s.station.records[i].seqWatch ≠ some (min (byteAt data 0) 15) →
    let stored : State := { s with station := { s.station with
      records := put s.station.records i
        { s.station.records[i] with seqWatch := some (min (byteAt data 0) 15) } } }
    exec (.watch ch data) s = .next (State.forward .w (frameOf 13 ch.toNat data)
      (if i = s.station.command then stored.capture .watch else stored)))

/-- SNAP-READ answers one of twelve parts; part 11 gives the buffer back, or, when it was renewed since it was last
released or since the last RENEWED, keeps it, clears the renewal flag and answers RENEWED (R181). -/
def Obligations.SnapReadReturnsParts : Prop :=
  ∀ (tag : Byte) (args : List Byte) (s : State), s.listens → 1 ≤ args.length →
    let part := byteAt args 0
    (12 ≤ part → exec (.snapRead tag args) s = .next (s.replied tag .badIndex [])) ∧
    (part ≤ 11 → s.fuel.snapshot = none → exec (.snapRead tag args) s = .next (s.replied tag .empty [])) ∧
    (∀ (c : Capture) (renewal : Bool), s.fuel.snapshot = some { capture := c, renewal := renewal } →
      let out (fields : List Byte) := Host.Outcome.next (φ := Fault) (ρ := Refusal) (s.replied tag .ok fields)
      let pair (a b : Nat) := out (fieldOf 3 a ++ fieldOf 3 b)
      let last := signedField 3 c.unassigned ++ fieldOf 3 c.shortfall
      let present : Nat := ((List.finRange 8).map fun i => if c.tanksPresent[i] then 2 ^ i.val else 0).sum
      (part = 0 → exec (.snapRead tag args) s = out (fieldOf 3 c.sequence ++
        [if c.reason = .mgmt then 0 else 1, flagByte renewal, BitVec.ofNat 8 present])) ∧
      (∀ e : Fin 4, part = e.val + 1 → exec (.snapRead tag args) s = pair c.supply[e] c.ret[e]) ∧
      (part = 5 → exec (.snapRead tag args) s = pair c.mass[0] c.mass[1]) ∧
      (part = 6 → exec (.snapRead tag args) s = pair c.mass[2] c.mass[3]) ∧
      (part = 7 → exec (.snapRead tag args) s = pair c.balance[0] c.balance[1]) ∧
      (part = 8 → exec (.snapRead tag args) s = pair c.balance[2] c.balance[3]) ∧
      (part = 9 → exec (.snapRead tag args) s = pair c.balance[4] c.balance[5]) ∧
      (part = 10 → exec (.snapRead tag args) s = pair c.balance[6] c.balance[7]) ∧
      (part = 11 → renewal = true → exec (.snapRead tag args) s = .next (State.replied tag .renewed last
        { s with fuel := { s.fuel with snapshot := some { capture := c, renewal := false } } })) ∧
      (part = 11 → renewal = false → exec (.snapRead tag args) s = .next (State.replied tag .ok last
        { s with fuel := { s.fuel with snapshot := none } })))

/-! ### Table memory -/

/-- TABLE-OPEN is ruled on by its rows: id above 7, slot held, in use (R186), else accepted with the declared count
clamped to 1..maximum: the table is LOADING with every word of its extent 0, holds the slot, the write index is 0, and
the records read from it cease (R82, R105, R129, R175, R183, R185). -/
def Obligations.TableOpenTakesTheSlot : Prop :=
  ∀ (tag : Byte) (args : List Byte) (s : State), s.listens → 2 ≤ args.length →
    let id := byteAt args 0
    (8 ≤ id → exec (.tableOpen tag args) s = .next (s.replied tag .badIndex [])) ∧
    (∀ h, id < 8 → s.mgmt.loadSlot = some h →
      exec (.tableOpen tag args) s = .next (s.replied tag .busy [BitVec.ofNat 8 (tableNum h).val])) ∧
    (∀ t : TableId, (tableNum t).val = id → s.mgmt.loadSlot = none →
      let engaged : Prop := ∃ (e : Fin 4) (x : EngineChannel), s.prop.channels[e] = some x ∧
        (x.gear = .ahead ∨ x.gear = .astern ∨ x.gear = .slowing)
      let used : Prop :=
        match t with
        | .station => engaged
        | .engine => engaged
        | .curve => engaged
        | .actuator => ∃ (j : Fin 8) (a : Actuator), s.steer.actuators[j] = some a ∧
            s.params.centreWindow < a.output.natAbs
        | .coupling => s.coup.slot ≠ none
        | .meter => False
        | .tank => False
        | .route => False
      let top := [4, 4, 68, 8, 48, 8, 8, 64].getD id 0
      let width := [3, 12, 1, 9, 10, 8, 7, 7].getD id 0
      let n := max 1 (min top (byteAt args 1))
      let table : Table :=
        { state := .loading, cause := .none, count := n, words := List.replicate (n * width) 0 }
      let opened : State := { s with mgmt := { s.mgmt with
        tables := put s.mgmt.tables (tableNum t) table, loadSlot := some t, writeIndex := 0 } }
      let ceased : State :=
        match t with
        | .engine => { opened with prop := { s.prop with
            channels := Vector.replicate 4 none, sync1 := none, sync2 := none } }
        | .actuator => { opened with steer := { s.steer with actuators := Vector.replicate 8 none } }
        | .coupling => State.tellSteering { opened with coup := { s.coup with
            records := Vector.replicate 48 none, walk := 0, hold := 0 } }
        | .tank => { opened with fuel := { s.fuel with tanks := Vector.replicate 8 none } }
        | _ => opened
      (used → exec (.tableOpen tag args) s = .next (s.replied tag .inUse [])) ∧
      (¬used → exec (.tableOpen tag args) s =
        .next (ceased.replied tag (if n = byteAt args 1 then .ok else .clamped) (fieldOf 1 n))))

/-- TABLE-WRITE is ruled on by its rows: slot free, an argument length that is no 1, 2 or 3 words, words beyond the
extent, else the words are stored in turn at the write index, which advances by one per word (R187). That the first row
answers whatever the argument length is the model's reading (log entry 17). -/
def Obligations.TableWriteStoresWords : Prop :=
  ∀ (tag : Byte) (args : List Byte) (s : State), s.listens →
    let k := args.length / 2
    let at_ := s.mgmt.writeIndex
    (s.mgmt.loadSlot = none → exec (.tableWrite tag args) s = .next (s.replied tag .badState [])) ∧
    (s.mgmt.loadSlot ≠ none → args.length ∉ [2, 4, 6] →
      exec (.tableWrite tag args) s = .next (s.replied tag .badValue [])) ∧
    (∀ t, s.mgmt.loadSlot = some t → args.length ∈ [2, 4, 6] → (s.table t).words.length < at_ + k →
      exec (.tableWrite tag args) s = .next (s.replied tag .badIndex [])) ∧
    (∀ t, s.mgmt.loadSlot = some t → args.length ∈ [2, 4, 6] → at_ + k ≤ (s.table t).words.length →
      ∃ words : List Word, words.length = (s.table t).words.length ∧
        (∀ j < k, words[at_ + j]? = some (args.getD (2 * j) 0 ++ args.getD (2 * j + 1) 0)) ∧
        (∀ j, j < at_ ∨ at_ + k ≤ j → words[j]? = (s.table t).words[j]?) ∧
        exec (.tableWrite tag args) s = .next (State.replied tag .ok (fieldOf 2 (at_ + k))
          { s with mgmt := { s.mgmt with
            tables := put s.mgmt.tables (tableNum t) { s.table t with words := words }
            writeIndex := at_ + k } }))

/-- TABLE-CLOSE with the slot free answers BAD_STATE. Otherwise the count, the CRC and the content are checked in turn.
The first failure makes the table REJECTED with its cause, frees the slot, raises TABLE_REJECTED and answers cause and
detail; a pass makes it READY, frees the slot, lets the reading units act and answers the declared count (R188, R190).
The CRC is formed bit by bit over the words, most significant bit first, with the generator 0x1021 from 0xFFFF (R188). -/
def Obligations.TableCloseChecksInTurn : Prop :=
  ∀ (tag : Byte) (args : List Byte) (s : State), s.listens → 2 ≤ args.length →
    (s.mgmt.loadSlot = none → exec (.tableClose tag args) s = .next (s.replied tag .badState [])) ∧
    (∀ t, s.mgmt.loadSlot = some t →
      let x := s.table t
      let bits : List Bool := x.words.flatMap fun w => (List.range 16).map fun k => w.getLsbD (15 - k)
      let crc : BitVec 16 := bits.foldl (fun reg b =>
        if reg.getLsbD 15 = b then reg <<< 1 else (reg <<< 1) ^^^ 0x1021#16) 0xFFFF#16
      let ended (st : TableState) (cause : Cause) : State := { s with mgmt := { s.mgmt with
        tables := put s.mgmt.tables (tableNum t) { x with state := st, cause := cause }, loadSlot := none } }
      let rejected (cause : Cause) (code : Byte) (detail : Nat) := Host.Outcome.next (φ := Fault) (ρ := Refusal)
        (((ended .rejected cause).raise .tableRejected (tableNum t).val).replied tag .rejected
          (code :: fieldOf 2 detail))
      (s.mgmt.writeIndex ≠ x.words.length →
        exec (.tableClose tag args) s = rejected .count 1 s.mgmt.writeIndex) ∧
      (s.mgmt.writeIndex = x.words.length → crc.toNat ≠ u16At args 0 →
        exec (.tableClose tag args) s = rejected .check 2 crc.toNat) ∧
      (∀ i, s.mgmt.writeIndex = x.words.length → crc.toNat = u16At args 0 → s.contentBreach t x = some i →
        exec (.tableClose tag args) s = rejected .content 3 i) ∧
      (s.mgmt.writeIndex = x.words.length → crc.toNat = u16At args 0 → s.contentBreach t x = none →
        exec (.tableClose tag args) s =
          .next (((ended .ready .none).afterReady t).replied tag .ok (fieldOf 1 x.count))))

/-- The content rules (R189): the detail is the lowest entry in breach, or the curve number for CURVE; STATION and METER
have no rule. -/
def Obligations.ContentRulesFindLowestBreach : Prop :=
  ∀ (t : TableId) (x : Table) (s : State),
    let w (width i k : Nat) : Nat := (x.words.getD (i * width + k) 0).toNat
    let wide (i k : Nat) : Nat := w 7 i k * 65536 + w 7 i (k + 1)
    let point (i : Nat) : Nat × Nat := (min 63 (w 10 i 1), min 3 (w 10 i 2))
    let bad (i : Nat) : Prop :=
      match t with
      | .station => False
      | .engine => i < x.count ∧ (w 12 i 3 < w 12 i 2 ∨ w 12 i 4 < w 12 i 2)
      | .curve => i < 4 ∧ 17 * (i + 1) ≤ x.count ∧ ∃ p < 16, w 1 (17 * i + p + 1) 0 < w 1 (17 * i + p) 0
      | .actuator => i < x.count ∧ w 9 i 0 ≠ 0 ∧ w 9 i 1 = 2 ∧
          ¬(s.ready .coupling = true ∧ min 47 (w 9 i 8) < (s.table .coupling).count ∧
            s.entryWord .coupling (min 47 (w 9 i 8)) 3 = 3)
      | .coupling => i < x.count ∧ (w 10 i 6 ≤ w 10 i 5 + w 10 i 7 ∨
          (w 10 i 0 ≠ 0 ∧ ∃ k < i, w 10 k 0 ≠ 0 ∧ point k = point i))
      | .meter => False
      | .tank => i < x.count ∧ (wide i 0 < wide i 2 ∨ wide i 0 < wide i 5)
      | .route => i < x.count ∧ w 7 i 3 < w 7 i 2
    (∀ i, bad i → (∀ k < i, ¬bad k) → s.contentBreach t x = some i) ∧
    ((∀ i, ¬bad i) → s.contentBreach t x = none)

/-- What the reading units do when a table becomes READY (R37, R64, R105, R130, R162, R175); nothing for CURVE and
ROUTE. -/
def Obligations.ReadyTableBringsUnits : Prop :=
  ∀ s : State,
    let zeros : Vector Int 4 := Vector.replicate 4 0
    let stations := remap s.station.records fun i r =>
      ({ seqLever := none, seqHelm := none, seqTake := none, seqWatch := none,
         lever := if i = s.station.command then s.station.lever else zeros,
         helm := if i = s.station.command then s.station.helm else 0, repeats := r.repeats } : StationRecord)
    let dwell := s.params.reversalDwell
    let engine (e : Fin 4) : EngineChannel :=
      let idle := (s.engineEntry e).idle
      { gear := if dwell = 0 then .neutral else .dwell, engaged := .neutral,
        dwellTimer := if dwell = 0 then none else some dwell, fresh := .idled, freshTimer := none,
        holdTimer := none, repRpm := 0, repGear := .neutral, reported := false, trim := 0, c := idle, a := 0,
        ramp := .none, lastRaw := idle, lastTarget := idle, lastCap := idle, lastOutput := idle, lastD := 0,
        lastDir := .neutral, lastDetent := 1, fuelCap := false }
    let engines := Vector.ofFn fun e : Fin 4 => if s.engineEnabled e then some (engine e) else none
    let actuator : Actuator :=
      { state := .align, target := 0, output := 0, remainder := 0, ramp := .none, count := 0,
        lastReported := 0, reported := false }
    let actuators := Vector.ofFn fun j : Fin 8 => if s.actuatorEnabled j then some actuator else none
    let coupling : CouplingRecord := { state := .unknown, tension := 0, pinOpen := false, age := 0 }
    let couplings := Vector.ofFn fun i : Fin 48 => if s.couplingEnabled i then some coupling else none
    let low (t : Fin 8) : Bool := decide ((s.tankEntry t).loaded * 1000 < (s.tankEntry t).reserve * 1000)
    let tank (t : Fin 8) : TankRecord :=
      { balance := (s.tankEntry t).loaded * 1000, credits := 0, debits := 0, shortfall := 0, excess := 0,
        reserve := low t }
    let tanks := Vector.ofFn fun t : Fin 8 => if s.reaches .tank t.val then some (tank t) else none
    let meters := remap s.fuel.meters fun _ r => ({ r with baseline := none, ra := 0, rb := 0 } : MeterRecord)
    s.afterReady .station = { s with station := { s.station with records := stations } } ∧
    s.afterReady .engine = { s with prop := { s.prop with channels := engines, sync1 := none, sync2 := none } } ∧
    s.afterReady .curve = s ∧
    s.afterReady .actuator = State.tellSteering { s with steer := { s.steer with actuators := actuators } } ∧
    s.afterReady .coupling =
      State.afterChange { s with coup := { s.coup with records := couplings, walk := 0, hold := 0 } } ∧
    s.afterReady .meter = { s with fuel := { s.fuel with meters := meters } } ∧
    s.afterReady .tank = ((List.finRange 8).filter fun t => s.reaches .tank t.val && low t).foldl
      (fun u t => u.raise .tankReserve t.val) { s with fuel := { s.fuel with tanks := tanks } } ∧
    s.afterReady .route = s

/-- TABLE-READ-SEEK sets the read table and index within an extent; TABLE-READ returns up to three words from the read
index, which advances by as many, and is refused while the read table is LOADING or at the end of the extent (R191).
TABLE-STATE returns a table's state, count, cause and write index, and the id in the load slot or 255 (R192), each code
as R202 gives it and the tables numbered as in R183. -/
def Obligations.TableReadsReturnWords : Prop :=
  ∀ (tag : Byte) (args : List Byte) (s : State), s.listens →
    let id := byteAt args 0
    let state (x : TableState) : Byte :=
      match x with
      | .empty => 0
      | .loading => 1
      | .ready => 2
      | .rejected => 3
    let cause (x : Cause) : Byte :=
      match x with
      | .none => 0
      | .count => 1
      | .check => 2
      | .content => 3
      | .restart => 4
    ([TableId.station, .engine, .curve, .actuator, .coupling, .meter, .tank, .route].map fun t => (tableNum t).val) =
      List.range 8 ∧
    (3 ≤ args.length →
      (8 ≤ id → exec (.tableReadSeek tag args) s = .next (s.replied tag .badIndex [])) ∧
      (∀ t : TableId, (tableNum t).val = id → (s.table t).words.length ≤ u16At args 1 →
        exec (.tableReadSeek tag args) s = .next (s.replied tag .badIndex [])) ∧
      (∀ t : TableId, (tableNum t).val = id → u16At args 1 < (s.table t).words.length →
        exec (.tableReadSeek tag args) s = .next (State.replied tag .ok []
          { s with mgmt := { s.mgmt with readTable := t, readIndex := u16At args 1 } }))) ∧
    (let x := s.table s.mgmt.readTable
      let words := (x.words.drop s.mgmt.readIndex).take 3
      (x.state = .loading → exec (.tableRead tag args) s = .next (s.replied tag .badState [])) ∧
      (x.state ≠ .loading → x.words.length ≤ s.mgmt.readIndex →
        exec (.tableRead tag args) s = .next (s.replied tag .badIndex [])) ∧
      (x.state ≠ .loading → s.mgmt.readIndex < x.words.length →
        exec (.tableRead tag args) s = .next (State.replied tag .ok
          (words.flatMap fun w => [w.extractLsb' 8 8, w.extractLsb' 0 8])
          { s with mgmt := { s.mgmt with readIndex := s.mgmt.readIndex + words.length } }))) ∧
    (1 ≤ args.length →
      (8 ≤ id → exec (.tableState tag args) s = .next (s.replied tag .badIndex [])) ∧
      (∀ t : TableId, (tableNum t).val = id →
        let x := s.table t
        let slot : Byte := match s.mgmt.loadSlot with
          | some h => BitVec.ofNat 8 (tableNum h).val
          | none => 255
        exec (.tableState tag args) s = .next (s.replied tag .ok
          ([state x.state] ++ fieldOf 1 x.count ++ [if x.state = .rejected then cause x.cause else 0] ++
            fieldOf 2 (if x.state = .loading then s.mgmt.writeIndex else 0) ++ [slot]))))

/-! ### Parameters, records, counters and refusals -/

/-- SET-PARAM rounds a time down to 10 ms, clamps to the parameter's range, stores and answers the stored value, CLAMPED
when the clamp changed it; every other parameter is kept, and a change of CENTRE_WINDOW is told to the release controller
(R139, R194, R203). GET-PARAM answers the stored value (R194). A code above 26 is BAD_INDEX. Which bits of a port default
are kept is the model's reading (log entry 15). -/
def Obligations.ParametersAreRoundedAndClamped : Prop :=
  ∀ (tag : Byte) (args : List Byte) (s : State), s.listens →
    let k := byteAt args 0
    let port (x : PortDefault) : Nat := x.egress.toNat + if x.cls = .bulk then 256 else 0
    let read (x : Params) (k : Nat) : Option Nat :=
      [x.propInterval, x.steerInterval, x.leverTimeout, x.leverHold, x.helmTimeout, x.reversalDwell, x.pollInterval,
        x.staleLimit, x.derateHold, x.deratePct1, x.deratePct2, x.deratePct3, x.reservePct, x.releaseTimeout,
        x.matchWindow, x.centreWindow, x.followWindow, x.followCount, x.runFlowLimit, x.syncStep, x.syncLimit,
        x.patienceRoutine, x.patienceBulk, port x.defaultW, port x.defaultM, port x.defaultT, x.noticeEnable.toNat][k]?
    let ranges : List (Nat × Nat) := [(20, 200), (20, 200), (100, 5000), (0, 30000), (100, 5000), (0, 15000),
      (10, 500), (8, 4095), (1, 65535), (10, 100), (10, 100), (10, 100), (10, 100), (1000, 60000), (0, 256),
      (0, 100), (5, 200), (1, 255), (0, 65535), (1, 10), (0, 100), (1, 63), (1, 63)]
    let given := u32At args 1
    let v := if k ≤ 6 ∨ k = 13 then given / 10 * 10 else given
    let stored :=
      if k ≤ 22 then max (ranges.getD k (0, 0)).1 (min (ranges.getD k (0, 0)).2 v)
      else if k ≤ 25 then v % 8 + 256 * (v / 256 % 2) else v % 2 ^ 20
    (27 ≤ k → (5 ≤ args.length → exec (.setParam tag args) s = .next (s.replied tag .badIndex [])) ∧
      (1 ≤ args.length → exec (.getParam tag args) s = .next (s.replied tag .badIndex []))) ∧
    (∀ value, read s.params k = some value → 1 ≤ args.length →
      exec (.getParam tag args) s = .next (s.replied tag .ok (fieldOf 4 value))) ∧
    (k ≤ 26 → 5 ≤ args.length → ∃ params : Params,
      (∀ j ≤ 26, read params j = if j = k then some stored else read s.params j) ∧
      let t : State := { s with params := params }
      exec (.setParam tag args) s = .next (State.replied tag (if stored = v then .ok else .clamped)
        (fieldOf 4 stored)
        (if k = 15 ∧ stored ≠ s.params.centreWindow then t.checkLock .helmOffCentre else t)))

/-- RECORD-READ answers the fields of R204 in their order, each code as R202 gives it, BAD_VALUE for an unknown kind or
item, BAD_INDEX for an index without a record, and changes nothing but W's BULK queue (R40, R84, R107, R128, R165, R176,
R195). The order of the checks and the detent of a station without an entry are the model's readings (log entries 16
and 18). The baseline bytes of an empty baseline are a free value (log entry 21). -/
def Obligations.RecordReadReturnsItems : Prop :=
  ∀ (tag : Byte) (args : List Byte) (s : State), s.listens → 3 ≤ args.length →
    let kind := byteAt args 0
    let k := byteAt args 1
    let item := byteAt args 2
    let out (st : Status) (fields : List Byte) : Prop :=
      exec (.recordRead tag args) s = .next (s.replied tag st fields)
    let n1 (v : Nat) := fieldOf 1 v
    let n2 (v : Nat) := fieldOf 2 v
    let n3 (v : Nat) := fieldOf 3 v
    let n6 (v : Nat) := fieldOf 6 v
    let i2 (v : Int) := signedField 2 v
    let seq (v : Option Nat) : List Byte := n1 (v.getD 255 % 256)
    let flag (b : Bool) : Byte := if b then 1 else 0
    let gear (x : Gear) : Byte :=
      match x with
      | .neutral => 0
      | .ahead => 1
      | .astern => 2
      | .slowing => 3
      | .dwell => 4
    let direction (x : Direction) : Byte :=
      match x with
      | .neutral => 0
      | .ahead => 1
      | .astern => 2
    let ramp (x : RampDir) : Byte :=
      match x with
      | .none => 0
      | .rising => 1
      | .falling => 2
    let freshness (x : Freshness) : Byte :=
      match x with
      | .live => 0
      | .holding => 1
      | .idled => 2
    let actuator (x : ActuatorState) : Byte :=
      match x with
      | .align => 0
      | .following => 1
      | .fault => 2
      | .gated => 3
    let coupling (x : CouplingState) : Byte :=
      match x with
      | .unknown => 0
      | .made => 1
      | .slack => 2
      | .overload => 3
      | .stale => 4
      | .parted => 5
      | .releasing => 6
      | .released => 7
    let couplingKind (x : CouplingKind) : Byte :=
      match x with
      | .face => 0
      | .foreAft => 1
      | .side => 2
      | .bowBoat => 3
    ((7 ≤ kind ∨ [4, 3, 5, 3, 3, 4, 8].getD kind 0 ≤ item) → out .badValue []) ∧
    (kind = 0 → item ≤ 3 → (4 ≤ k → out .badIndex []) ∧ ∀ i : Fin 4, i.val = k →
      let r := s.station.records[i]
      (item = 0 → out .ok (seq r.seqLever ++ seq r.seqHelm ++ seq r.seqTake ++ seq r.seqWatch)) ∧
      (item = 1 → out .ok (i2 r.lever[0] ++ i2 r.lever[1])) ∧
      (item = 2 → out .ok (i2 r.lever[2] ++ i2 r.lever[3])) ∧
      (item = 3 → out .ok (i2 r.helm ++ n2 r.repeats ++ [flag (s.stationEnabled i)] ++
        n1 (s.stationDetent i)))) ∧
    (kind = 1 → item ≤ 2 → (k ≠ 0 → out .badIndex []) ∧ (k = 0 →
      (item = 0 → out .ok (n1 s.station.command.val ++ i2 s.station.helm)) ∧
      (item = 1 → out .ok (i2 s.station.lever[0] ++ i2 s.station.lever[1])) ∧
      (item = 2 → out .ok (i2 s.station.lever[2] ++ i2 s.station.lever[3])))) ∧
    (kind = 2 → item ≤ 4 → ((∀ e : Fin 4, e.val = k → s.prop.channels[e] = none) → out .badIndex []) ∧
      ∀ (e : Fin 4) (c : EngineChannel), e.val = k → s.prop.channels[e] = some c →
      let synced : Bool :=
        if (s.engineEntry e).group = 1 then s.prop.sync1.isSome
        else if (s.engineEntry e).group = 2 then s.prop.sync2.isSome else false
      (item = 0 → out .ok [gear c.gear, direction c.engaged, freshness c.fresh,
        flag c.reported, flag synced]) ∧
      (item = 1 → out .ok (n2 c.c ++ n2 c.a ++ [ramp c.ramp])) ∧
      (item = 2 → out .ok (n2 c.lastRaw ++ n2 c.lastTarget ++ n2 c.lastCap)) ∧
      (item = 3 → out .ok (n2 c.lastOutput ++ n2 c.repRpm ++ [direction c.repGear])) ∧
      (item = 4 → out .ok (i2 c.trim ++ n1 c.lastD ++ [direction c.lastDir] ++ n1 c.lastDetent ++
        [flag c.fuelCap]))) ∧
    (kind = 3 → item ≤ 2 → ((∀ j : Fin 8, j.val = k → s.steer.actuators[j] = none) → out .badIndex []) ∧
      ∀ (j : Fin 8) (a : Actuator), j.val = k → s.steer.actuators[j] = some a →
      let x := s.actuatorEntry j
      (item = 0 → out .ok ([actuator a.state, ramp a.ramp] ++ n1 a.count ++
        [flag a.reported, if s.steer.helmFresh = .live then 0 else 1])) ∧
      (item = 1 → out .ok (i2 a.target ++ i2 a.output ++ n2 a.remainder)) ∧
      (item = 2 → out .ok (i2 a.lastReported ++
        n2 (if s.coup.level < 3 ∨ x.kind = .bow then x.limit else x.limit * 2 / 3) ++
        n2 (if s.coup.level < 2 then x.rate else max 1 (x.rate / 2))))) ∧
    (kind = 4 → item ≤ 2 →
      (k ≠ 255 → (∀ i : Fin 48, i.val = k → s.coup.records[i] = none) → out .badIndex []) ∧
      (k = 255 →
        (item = 0 → out .ok ([0, 0, 0] ++ n1 s.coup.level ++ n1 s.candidate ++ n1 s.coup.walk)) ∧
        (item = 1 → out .ok ([0, 0, 0, 0] ++ n2 s.coup.hold)) ∧ (item = 2 → out .ok [0, 0, 0])) ∧
      ∀ (i : Fin 48) (r : CouplingRecord), i.val = k → s.coup.records[i] = some r →
      let x := s.couplingEntry i
      (item = 0 → out .ok ([coupling r.state, flag r.pinOpen] ++ n1 (s.contributionOf i) ++
        n1 s.coup.level ++ n1 s.candidate ++ n1 s.coup.walk)) ∧
      (item = 1 → out .ok (n2 r.tension ++ n2 r.age ++ n2 s.coup.hold)) ∧
      (item = 2 → out .ok ([couplingKind x.kind] ++ n1 x.crit ++ [flag x.powered]))) ∧
    (kind = 5 → item ≤ 3 →
      (12 ≤ k → k ≠ 255 → out .badIndex []) ∧
      (k = 255 → (item = 0 → out .ok (signedField 6 s.fuel.unassigned)) ∧ (item ≠ 0 → out .badValue [])) ∧
      (∀ e : Fin 4, k = e.val + 8 →
        (item = 0 → out .ok (n6 s.fuel.engines[e].supply)) ∧ (item = 1 → out .ok (n6 s.fuel.engines[e].ret)) ∧
        (2 ≤ item → out .badValue [])) ∧
      (∀ i : Fin 8, i.val = k →
        let r := s.fuel.meters[i]
        (item = 0 → out .ok (n2 (r.baseline.getD (Config.emptyBaseline k).toNat) ++ [flag r.baseline.isSome] ++
          n2 r.glitches ++ [flag (s.meterInService i)])) ∧
        (item = 1 → out .ok (n3 r.ra ++ n3 r.rb)) ∧ (item = 2 → out .ok (i2 r.temp)) ∧
        (item = 3 → out .ok (n6 r.amount)))) ∧
    (kind = 6 → item ≤ 7 → ((∀ t : Fin 8, t.val = k → s.fuel.tanks[t] = none) → out .badIndex []) ∧
      ∀ (t : Fin 8) (r : TankRecord), t.val = k → s.fuel.tanks[t] = some r →
      let x := s.tankEntry t
      (item = 0 → out .ok (n6 r.balance)) ∧ (item = 1 → out .ok (n6 r.credits)) ∧
      (item = 2 → out .ok (n6 r.debits)) ∧ (item = 3 → out .ok (n6 r.shortfall)) ∧
      (item = 4 → out .ok (n6 r.excess)) ∧ (item = 5 → out .ok [flag r.reserve]) ∧
      (item = 6 → out .ok (n3 x.capacity ++ n3 x.reserve)) ∧
      (item = 7 → out .ok (n2 x.density ++ n3 x.loaded)))

/-- COUNTER-READ answers a counter by its code, and zeroes it after the read when asked (R195, R203). That a notice's
code answers its last index only, and that a zero flag above 1 is BAD_VALUE there too, are the model's readings (log
entries 14 and 22). NOTICE-CLEAR answers the standing flags, then clears those of its set, and keeps every last index
(R197). -/
def Obligations.CountersAndNoticesReadAndClear : Prop :=
  ∀ (tag : Byte) (args : List Byte) (s : State), s.listens →
    let k := byteAt args 0
    let z := byteAt args 1
    let out (v : Nat) (t : State) : Prop :=
      exec (.counterRead tag args) s = .next ((if z = 1 then t else s).replied tag .ok (fieldOf 2 v))
    (2 ≤ args.length →
      ((k = 6 ∨ k = 7 ∨ 12 ≤ k ∧ k ≤ 15 ∨ 24 ≤ k ∧ k ≤ 31 ∨ 52 ≤ k) →
        exec (.counterRead tag args) s = .next (s.replied tag .badIndex [])) ∧
      ((k ≤ 5 ∨ 8 ≤ k ∧ k ≤ 11 ∨ 16 ≤ k ∧ k ≤ 23 ∨ 32 ≤ k ∧ k ≤ 51) → 2 ≤ z →
        exec (.counterRead tag args) s = .next (s.replied tag .badValue [])) ∧
      (z ≤ 1 →
        (∀ p : Port, k = portNum p →
          out (s.comms.port p).malformed (s.onPort p fun u => { u with malformed := 0 })) ∧
        (∀ p : Port, k = 3 + portNum p →
          out (s.comms.port p).frameLoss (s.onPort p fun u => { u with frameLoss := 0 })) ∧
        (∀ i : Fin 4, k = 8 + i.val → out s.station.records[i].repeats
          { s with station := { s.station with
            records := put s.station.records i { s.station.records[i] with repeats := 0 } } }) ∧
        (∀ i : Fin 8, k = 16 + i.val → out s.fuel.meters[i].glitches
          { s with fuel := { s.fuel with
            meters := put s.fuel.meters i { s.fuel.meters[i] with glitches := 0 } } }) ∧
        (∀ n : Fin 20, k = 32 + n.val → out s.comms.notices[n].last s))) ∧
    (3 ≤ args.length →
      let standing : Nat := ((List.finRange 20).map fun n => if s.comms.notices[n].flag then 2 ^ n.val else 0).sum
      let notices := remap s.comms.notices fun n x =>
        ({ x with flag := x.flag && !(u24At args 0).testBit n.val } : Notice)
      exec (.noticeClear tag args) s = .next (State.replied tag .ok (fieldOf 3 standing)
        { s with comms := { s.comms with notices := notices } }))

/-- A command with fewer argument bytes than it requires, and an unknown command, are answered BAD_VALUE and carry
nothing out (R193, the sizes of R203); and every management command taken while a restart is pending is discarded
(R199). A REPLY is a frame of kind 16 on the management channel with the tag, the code of the status (R202) and the
results, offered to W's BULK queue last; a result field holds its value most significant byte first, an unsigned one cut
at the field's greatest value (R193, R201). -/
def Obligations.CommandsRefusedOrDiscarded : Prop :=
  ∀ (tag code : Byte) (args : List Byte) (s : State),
    let rows : List (Nat × Instr) :=
      [(2, .tableOpen tag args), (2, .tableClose tag args), (3, .tableReadSeek tag args), (1, .tableState tag args),
       (5, .setParam tag args), (1, .getParam tag args), (3, .recordRead tag args), (2, .counterRead tag args),
       (3, .noticeClear tag args), (1, .snapRead tag args), (4, .bunker tag args), (5, .transfer tag args),
       (1, .coupleRelease tag args), (1, .coupleDetach tag args), (1, .coupleAttach tag args),
       (1, .pollNow tag args), (1, .actuatorReset tag args)]
    let others : List Instr := [.tableWrite tag args, .tableRead tag args, .snapCapture tag args,
      .restartCommand tag args, .unknownCommand tag code args]
    (∀ (n : Nat) (c : Instr), (n, c) ∈ rows → s.listens → args.length < n →
      exec c s = .next (s.replied tag .badValue [])) ∧
    (s.listens → exec (.unknownCommand tag code args) s = .next (s.replied tag .badValue [])) ∧
    (∀ c ∈ others ++ rows.map (·.2), s.replyWait ≠ none → exec c s = .next s) ∧
    (∀ (st : Status) (results : List Byte),
      let status : Byte :=
        match st with
        | .ok => 0
        | .clamped => 1
        | .busy => 2
        | .badState => 3
        | .badIndex => 4
        | .badValue => 5
        | .inUse => 6
        | .interlock => 7
        | .notPowered => 8
        | .rejected => 9
        | .empty => 10
        | .renewed => 11
      s.replied tag st results = s.offerLow .w .bulk
        { id := BitVec.ofNat 11 (16 * 64 + s.channel.toNat), data := tag :: status :: results }) ∧
    (∀ (n k v : Nat) (i : Int), (fieldOf n v).length = n ∧ (signedField n i).length = n ∧ (k < n →
      (fieldOf n v)[k]? = some (BitVec.ofNat 8 (min v (256 ^ n - 1) / 256 ^ (n - 1 - k))) ∧
      (signedField n i)[k]? = some (BitVec.ofNat 8 ((i % 256 ^ n).toNat / 256 ^ (n - 1 - k)))))

/-! ### Commands on couplings and actuators -/

/-- COUPLE-RELEASE is ruled on by the first of its six rows (R135), over the four interlock conditions in their order
(R134). An accepted one makes the record RELEASING and the slot OCCUPIED, offers OPEN to T's URGENT queue, loads the
release timer, and tells derate and steering (R136). -/
def Obligations.ReleaseIsRuledBySixRows : Prop :=
  ∀ (tag : Byte) (args : List Byte) (s : State), s.listens → 1 ≤ args.length →
    let k := byteAt args 0
    let out (st : Status) (fields : List Byte) : Prop :=
      exec (.coupleRelease tag args) s = .next (s.replied tag st fields)
    ((∀ i : Fin 48, i.val = k → s.coup.records[i] = none) → out .badIndex []) ∧
    (∀ (i : Fin 48) (r : CouplingRecord), i.val = k → s.coup.records[i] = some r →
      let x := s.couplingEntry i
      let holds : Interlock → Prop
        | .enginesEngaged => ∃ (e : Fin 4) (y : EngineChannel), s.prop.channels[e] = some y ∧
            (y.gear = .ahead ∨ y.gear = .astern ∨ y.gear = .slowing)
        | .helmOffCentre => s.params.centreWindow < s.station.helm.natAbs
        | .bowActive => ∃ (j : Fin 8) (a : Actuator), s.steer.actuators[j] = some a ∧
            (s.actuatorEntry j).kind = .bow ∧ a.output ≠ 0
        | .underLoad => x.slack ≤ r.tension
      let code (c : Interlock) : Nat :=
        match c with
        | .enginesEngaged => 0
        | .helmOffCentre => 1
        | .bowActive => 2
        | .underLoad => 3
      let state (x : CouplingState) : Byte :=
        match x with
        | .unknown => 0
        | .made => 1
        | .slack => 2
        | .overload => 3
        | .stale => 4
        | .parted => 5
        | .releasing => 6
        | .released => 7
      let locked (c : Interlock) : Prop := x.locks.getLsbD (code c) = true ∧ holds c
      let records := put s.coup.records i (some { r with state := .releasing })
      let open_ : State := { s with coup := { s.coup with records := records, slot := some i } }
      let sent := open_.offerUrgent .t (frameOf 4 x.channel [BitVec.ofNat 8 x.sub, 1])
      let timed : State := { sent with coup := { sent.coup with releaseTimer := some s.params.releaseTimeout } }
      (x.powered = false → out .notPowered []) ∧
      (∀ h : Fin 48, x.powered = true → s.coup.slot = some h → out .busy [BitVec.ofNat 8 h.val]) ∧
      (x.powered = true → s.coup.slot = none → r.state ≠ .made → r.state ≠ .slack →
        out .badState [state r.state]) ∧
      (∀ c : Interlock, x.powered = true → s.coup.slot = none → (r.state = .made ∨ r.state = .slack) → locked c →
        (∀ d : Interlock, code d < code c → ¬locked d) →
        out .interlock [BitVec.ofNat 8 (code c)]) ∧
      (x.powered = true → s.coup.slot = none → (r.state = .made ∨ r.state = .slack) → (∀ c, ¬locked c) →
        exec (.coupleRelease tag args) s = .next (timed.afterChange.replied tag .ok [])))

/-- COUPLE-DETACH takes a record that is not RELEASING to RELEASED (R121); COUPLE-ATTACH takes a RELEASED one to UNKNOWN
with age 0 (R122); both tell derate and steering of the change. POLL-NOW offers a COUPLE-POLL for a record not RELEASED
and leaves the walk pointer (R114). ACTUATOR-RESET takes an actuator in FAULT to ALIGN with its output kept (R97, R101);
a BOW one whose coupling is not MADE passes on to GATED with output 0, its waiting BOW-SET withdrawn (R102). -/
def Obligations.DetachAttachPollAndReset : Prop :=
  (∀ (tag : Byte) (args : List Byte) (s : State), s.listens → 1 ≤ args.length →
    let k := byteAt args 0
    let detach := exec (.coupleDetach tag args) s
    let attach := exec (.coupleAttach tag args) s
    let poll := exec (.pollNow tag args) s
    ((∀ i : Fin 48, i.val = k → s.coup.records[i] = none) →
      detach = .next (s.replied tag .badIndex []) ∧ attach = .next (s.replied tag .badIndex []) ∧
      poll = .next (s.replied tag .badIndex [])) ∧
    (∀ (i : Fin 48) (r : CouplingRecord), i.val = k → s.coup.records[i] = some r →
      let with_ (x : CouplingRecord) : State :=
        { s with coup := { s.coup with records := put s.coup.records i (some x) } }
      let frame := frameOf 12 (s.couplingEntry i).channel [BitVec.ofNat 8 (s.couplingEntry i).sub]
      (r.state = .releasing → detach = .next (s.replied tag .busy [])) ∧
      (r.state = .released → detach = .next (s.replied tag .ok [])) ∧
      (r.state ≠ .releasing → r.state ≠ .released →
        detach = .next ((with_ { r with state := .released }).afterChange.replied tag .ok [])) ∧
      (r.state ≠ .released → attach = .next (s.replied tag .badState [])) ∧
      (r.state = .released →
        attach = .next ((with_ { r with state := .unknown, age := 0 }).afterChange.replied tag .ok [])) ∧
      (r.state = .released → poll = .next (s.replied tag .badState [])) ∧
      (r.state ≠ .released → poll = .next ((s.offerLow .t .routine frame).replied tag .ok [])))) ∧
  (∀ (tag : Byte) (args : List Byte) (s : State), s.listens → 1 ≤ args.length →
    let k := byteAt args 0
    let out := exec (.actuatorReset tag args) s
    ((∀ j : Fin 8, j.val = k → s.steer.actuators[j] = none) → out = .next (s.replied tag .badIndex [])) ∧
    (∀ (j : Fin 8) (a : Actuator), j.val = k → s.steer.actuators[j] = some a →
      let x := s.actuatorEntry j
      let made : Prop := ∃ r, s.coup.records[x.bow] = some r ∧ r.state = .made
      let with_ (y : Actuator) : State :=
        { s with steer := { s.steer with actuators := put s.steer.actuators j (some y) } }
      let still : Actuator := { a with state := .align, target := 0, remainder := 0, ramp := .none, count := 0 }
      (a.state ≠ .fault → out = .next (s.replied tag .badState [])) ∧
      (a.state = .fault → (x.kind ≠ .bow ∨ made) → out = .next ((with_ still).replied tag .ok [])) ∧
      (a.state = .fault → x.kind = .bow → ¬made →
        out = .next (State.replied tag .ok [] (State.withdraw .t (keyOf (frameOf 3 x.channel []))
          (with_ { still with state := .gated, output := 0 }))))))

/-! ### Restarts -/

/-- RESTART offers its REPLY to W's BULK queue, and a restart pending state begins that counts the frames ahead of it; a
REPLY refused because W is DOWN or its BULK queue is full enters the warm restart at once, the loss counted before it
(R199). That END_OF_RESTART then ends the restart, with the straps read again, is the model's reading (log entry 9).
TransmitCompleteSendsHead and LinkLostAndRestored state how the pending state ends. -/
def Obligations.RestartCommandWaitsForReply : Prop :=
  ∀ (tag : Byte) (args : List Byte) (s : State), s.listens →
    let reply := frameOf 16 s.channel.toNat [tag, 0]
    let refused : State :=
      (s.onPort .w fun u => { u with frameLoss := min 65535 (u.frameLoss + 1) }).raise .frameLoss 0
    (s.comms.w.link = .up → s.comms.w.bulk.length < 8 → exec (.restartCommand tag args) s =
      .next { s.onPort .w (fun u => PortUnit.grant s.env { u with bulk := u.bulk ++ [reply] }) with
        replyWait := some s.comms.w.bulk.length }) ∧
    ((s.comms.w.link = .down ∨ 8 ≤ s.comms.w.bulk.length) → exec (.restartCommand tag args) s =
      .next { refused with restart := some .warm, replyWait := none })

/-- The RESET line holds the part in a power-on reset from any state (R198); at its end every unit takes its power-on
values and the straps are read (R24, R38, R62, R83, R106, R131, R144, R163, R175, R177, R198). That the values are taken
at the end, with the straps an operand, is the model's form (log entry 12). -/
def Obligations.PowerOnResetGivesPowerOnValues : Prop :=
  ∀ (straps : Straps) (s : State),
    exec .powerOnReset s = .next { s with restart := some .powerOn, replyWait := none } ∧
    (s.restart = some .powerOn → ∃ t : State, exec (.endOfRestart straps) s = .next t ∧
      (∀ p : Port, t.comms.port p =
        { link := .up, urgent := [], routine := [], bulk := [], inFlight := none, passedRoutine := 0,
          passedBulk := 0, malformed := 0, frameLoss := 0,
          bitRate := match p with | .w => straps.wRate | .m => straps.mRate | .t => straps.tRate }) ∧
      (∀ n : Fin 20, t.comms.notices[n] = { flag := false, last := 0 }) ∧
      (∀ i : Fin 4, t.station.records[i] =
        { seqLever := none, seqHelm := none, seqTake := none, seqWatch := none, lever := Vector.replicate 4 0,
          helm := 0, repeats := 0 }) ∧
      t.station.command = 0 ∧ t.station.lever = Vector.replicate 4 0 ∧ t.station.helm = 0 ∧
      t.prop.rampTimer = 50 ∧ (∀ e : Fin 4, t.prop.channels[e] = none) ∧ t.prop.sync1 = none ∧
      t.prop.sync2 = none ∧
      t.steer.steeringTimer = 40 ∧ t.steer.helmFresh = .held ∧ t.steer.helmTimer = none ∧
      (∀ j : Fin 8, t.steer.actuators[j] = none) ∧
      t.coup.pollTimer = 50 ∧ (∀ i : Fin 48, t.coup.records[i] = none) ∧ t.coup.walk = 0 ∧ t.coup.level = 0 ∧
      t.coup.hold = 0 ∧ t.coup.slot = none ∧ t.coup.releaseTimer = none ∧
      (∀ i : Fin 8, t.fuel.meters[i] =
        { baseline := none, ra := 0, rb := 0, glitches := 0, temp := 150, amount := 0 }) ∧
      (∀ e : Fin 4, t.fuel.engines[e] = { supply := 0, ret := 0 }) ∧ t.fuel.unassigned = 0 ∧
      (∀ k : Fin 8, t.fuel.tanks[k] = none) ∧ t.fuel.snapshot = none ∧ t.fuel.captureSeq = 0 ∧
      (∀ id : TableId, t.table id = { state := .empty, cause := .none, count := 0, words := [] }) ∧
      t.mgmt.loadSlot = none ∧ t.mgmt.writeIndex = 0 ∧ t.mgmt.readTable = .station ∧ t.mgmt.readIndex = 0 ∧
      t.params = { propInterval := 50, steerInterval := 40, leverTimeout := 500, leverHold := 3000, helmTimeout := 500,
                   reversalDwell := 2000, pollInterval := 50, staleLimit := 200, derateHold := 600, deratePct1 := 80,
                   deratePct2 := 60, deratePct3 := 40, reservePct := 70, releaseTimeout := 15000, matchWindow := 64,
                   centreWindow := 30, followWindow := 50, followCount := 10, runFlowLimit := 200, syncStep := 2,
                   syncLimit := 30, patienceRoutine := 4, patienceBulk := 8,
                   defaultW := { egress := 0b010#3, cls := .routine },
                   defaultM := { egress := 0b001#3, cls := .routine },
                   defaultT := { egress := 0b001#3, cls := .routine }, noticeEnable := 0xFFFFF#20 } ∧
      t.straps = straps ∧ t.channel = straps.mch ∧ t.restart = none ∧ t.replyWait = none ∧
      t.pending = s.pending)

/-- The RESTART line holds the part in a warm restart; at its end each unit takes its restart values: what R24, R39,
R83, R106, R132, R144, R164, R175, R177 and R199 keep is kept and the rest is cleared, with the straps read again. That
the values are taken at the end, with the straps an operand, is the model's form (log entry 12). -/
def Obligations.WarmRestartKeepsTheAccount : Prop :=
  ∀ (straps : Straps) (s : State),
    (s.restart = none → exec .warmRestart s = .next { s with restart := some .warm, replyWait := none }) ∧
    (s.restart = some .warm → ∃ t : State, exec (.endOfRestart straps) s = .next t ∧
      (∀ p : Port, t.comms.port p =
        { link := .up, urgent := [], routine := [], bulk := [], inFlight := none, passedRoutine := 0,
          passedBulk := 0, malformed := 0, frameLoss := 0,
          bitRate := match p with | .w => straps.wRate | .m => straps.mRate | .t => straps.tRate }) ∧
      (∀ n : Fin 20, t.comms.notices[n] = { flag := false, last := 0 }) ∧
      (∀ i : Fin 4, t.station.records[i] =
        { seqLever := none, seqHelm := none, seqTake := none, seqWatch := none, lever := Vector.replicate 4 0,
          helm := s.station.records[i].helm, repeats := 0 }) ∧
      t.station.command = s.station.command ∧ t.station.lever = Vector.replicate 4 0 ∧
      t.station.helm = s.station.helm ∧
      t.prop.rampTimer = s.params.propInterval ∧ t.prop.sync1 = none ∧ t.prop.sync2 = none ∧
      (∀ e : Fin 4, s.engineEnabled e = false → t.prop.channels[e] = none) ∧
      (∀ e : Fin 4, s.engineEnabled e = true → ∃ c : EngineChannel, t.prop.channels[e] = some c ∧
        c.gear = (if s.params.reversalDwell = 0 then .neutral else .dwell) ∧ c.engaged = .neutral ∧
        c.dwellTimer = (if s.params.reversalDwell = 0 then none else some s.params.reversalDwell) ∧
        c.fresh = .idled ∧ c.freshTimer = none ∧ c.holdTimer = none ∧ c.repRpm = 0 ∧ c.repGear = .neutral ∧
        c.reported = false ∧ c.trim = 0 ∧ c.c = (s.engineEntry e).idle ∧ c.a = 0 ∧ c.ramp = .none ∧
        c.lastRaw = c.c ∧ c.lastTarget = c.c ∧ c.lastCap = c.c ∧ c.lastOutput = c.c ∧ c.lastD = 0 ∧
        c.lastDir = .neutral ∧ c.lastDetent = 1 ∧ c.fuelCap = false) ∧
      t.steer.steeringTimer = s.params.steerInterval ∧ t.steer.helmFresh = .held ∧ t.steer.helmTimer = none ∧
      (∀ j : Fin 8, (s.ready .actuator = false ∨ s.steer.actuators[j] = none) → t.steer.actuators[j] = none) ∧
      (∀ (j : Fin 8) (a : Actuator), s.ready .actuator = true → s.steer.actuators[j] = some a →
        let made : Prop := ∃ r, t.coup.records[(s.actuatorEntry j).bow] = some r ∧ r.state = .made
        let gated : Prop := (s.actuatorEntry j).kind = .bow ∧ ¬made
        (gated → t.steer.actuators[j] = some { a with state := .gated, target := 0, output := 0, remainder := 0,
                                                      ramp := .none, count := 0, reported := false }) ∧
        (¬gated → t.steer.actuators[j] = some { a with state := .align, target := 0, remainder := 0,
                                                       ramp := .none, count := 0, reported := false })) ∧
      t.coup.pollTimer = s.params.pollInterval ∧ t.coup.slot = none ∧ t.coup.releaseTimer = none ∧
      (s.ready .coupling = false → (∀ i : Fin 48, t.coup.records[i] = none) ∧ t.coup.walk = s.coup.walk ∧
        t.coup.level = s.coup.level ∧ t.coup.hold = s.coup.hold) ∧
      (s.ready .coupling = true → t.coup.walk = 0 ∧ t.coup.hold = 0 ∧ t.coup.level = t.candidate ∧
        ∀ i : Fin 48, t.coup.records[i] = s.coup.records[i].map fun r =>
          if r.state = .released then r else { r with state := .unknown, age := 0 }) ∧
      (∀ i : Fin 8, t.fuel.meters[i] =
        { s.fuel.meters[i] with baseline := none, ra := 0, rb := 0, glitches := 0 }) ∧
      t.fuel.engines = s.fuel.engines ∧ t.fuel.unassigned = s.fuel.unassigned ∧
      t.fuel.tanks = s.fuel.tanks ∧ t.fuel.snapshot = none ∧ t.fuel.captureSeq = s.fuel.captureSeq ∧
      (∀ id : TableId, t.table id = if (s.table id).state = .loading then
        { s.table id with state := .rejected, cause := .restart } else s.table id) ∧
      t.mgmt.loadSlot = none ∧ t.mgmt.writeIndex = 0 ∧ t.mgmt.readTable = .station ∧ t.mgmt.readIndex = 0 ∧
      t.params = s.params ∧ t.straps = straps ∧ t.channel = straps.mch ∧ t.restart = none ∧
      t.replyWait = none ∧ t.pending = s.pending)

/-! ### The setpoint computation and the timers -/

/-- One carried-remainder stepping (R55, R56, R92): a value at its target zeroes the remainder; a change of direction
drops the remainder first; the remainder gains rate times interval, the step is its quotient by 1000, and a gap within
the step arrives exactly. A stepping never passes its target and never moves away from it. -/
def Obligations.SteppingCarriesItsRemainder : Prop :=
  ∀ (target : Int) (up down elapsed : Nat) (r : Ramped),
    let n := rampStep target up down elapsed r
    let rate := if r.pos < target then up else down
    let dir : RampDir := if r.pos < target then .rising else .falling
    let acc := (if dir = r.dir then r.rem else 0) + rate * elapsed
    (target = r.pos → n = { pos := target, rem := 0, dir := .none }) ∧
    (target ≠ r.pos → (target - r.pos).natAbs ≤ acc / 1000 → n = { pos := target, rem := 0, dir := .none }) ∧
    (r.pos < target → (acc / 1000 : Nat) < target - r.pos →
      n = { pos := r.pos + (acc / 1000 : Nat), rem := acc % 1000, dir := .rising }) ∧
    (target < r.pos → (acc / 1000 : Nat) < r.pos - target →
      n = { pos := r.pos - (acc / 1000 : Nat), rem := acc % 1000, dir := .falling }) ∧
    (r.pos ≤ n.pos ∧ n.pos ≤ target ∨ target ≤ n.pos ∧ n.pos ≤ r.pos)

/-- Stages 2 to 6 of a channel, in the gear the gear step has left: detent quantization (R47), the curve or the last raw
(R48, R49, R50), the lowest of the maximum, the derate cap and the fuel cap, not below idle (R51, R52, R53), the cut of
a setpoint above its cap (R54), and the stepping toward the target (R57). The first clauses are the ENGINE entry in use
(R45) and the detent (R25, R30). -/
def Obligations.SetpointStagesCompute : Prop :=
  (∀ (e : Fin 4) (s : State),
    let w (k : Nat) : Nat := ((s.table .engine).words.getD (e.val * 12 + k) 0).toNat
    let x := s.engineEntry e
    x.channel = min 63 (w 1) ∧ x.idle = max 300 (min 1500 (w 2)) ∧ x.aheadMax = max x.idle (min 3000 (w 3)) ∧
    x.asternMax = max x.idle (min 3000 (w 4)) ∧ x.aheadCurve = min 3 (w 5) ∧ x.asternCurve = min 3 (w 6) ∧
    x.upRate = max 1 (min 1000 (w 7)) ∧ x.downRate = max 1 (min 2000 (w 8)) ∧ x.deadband = min 256 (w 9) ∧
    x.group = w 10 ∧ (∀ t : Fin 8, x.feedTank = some t ↔ w 11 = t.val) ∧
    (s.engineEnabled e = true ↔ (s.table .engine).state = .ready ∧ e.val < (s.table .engine).count ∧ w 0 ≠ 0)) ∧
  (∀ (i : Fin 4) (s : State),
    let x := s.table .station
    let v := (x.words.getD (i.val * 3 + 2) 0).toNat
    s.stationDetent i = if x.state = .ready ∧ i.val < x.count then
      (if v ≤ 4 then 1 else if v ≤ 20 then 8 else if v ≤ 48 then 32 else 64) else 1) ∧
  (∀ (e : Fin 4) (level elapsed : Nat) (lever : Int) (dir : Direction) (c : EngineChannel) (s : State),
      let x := s.engineEntry e
      let running : Prop := c.gear = .ahead ∨ c.gear = .astern
      let detent := s.stationDetent s.station.command
      let m := lever.natAbs / detent * detent
      let curve := if c.gear = .astern then x.asternCurve else x.aheadCurve
      let point (p : Nat) : Nat := min 3000 (s.entryWord .curve (17 * curve + p) 0)
      let available : Prop := s.ready .curve = true ∧ 17 * (curve + 1) ≤ (s.table .curve).count
      let raw := if running ∧ available then
          (if m < 1024 then point (m / 64) + (point (m / 64 + 1) - point (m / 64)) * (m % 64) / 64 else point 16)
        else c.lastRaw
      let top : Option Nat :=
        match c.gear, c.engaged with
        | .ahead, _ => some x.aheadMax
        | .astern, _ => some x.asternMax
        | .slowing, .ahead => some x.aheadMax
        | .slowing, .astern => some x.asternMax
        | _, _ => none
      let p := s.params
      let pct := if level = 0 then 100 else if level = 1 then min p.deratePct1 100
        else if level = 2 then min p.deratePct2 (min p.deratePct1 100)
        else min p.deratePct3 (min p.deratePct2 (min p.deratePct1 100))
      let reserve : Bool :=
        match x.feedTank with
        | some k => s.reaches .tank k.val && ((s.fuel.tanks[k]).map fun r => r.reserve).getD false
        | none => false
      let cap :=
        match top with
        | some v => max x.idle (min v (min (v * pct / 100) (if reserve then v * p.reservePct / 100 else v)))
        | none => x.idle
      let target := if running then max x.idle (min raw cap) else x.idle
      let start : Ramped :=
        if cap < c.c then { pos := cap, rem := 0, dir := c.ramp } else { pos := c.c, rem := c.a, dir := c.ramp }
      let n := rampStep target x.upRate x.downRate elapsed start
      s.setpoint e level elapsed lever dir c = { c with
        c := n.pos.toNat, a := n.rem, ramp := n.dir, lastRaw := raw, lastTarget := target, lastCap := cap,
        lastD := level, lastDir := dir, lastDetent := if running then detent else 1,
        fuelCap := top.isSome && reserve })

/-- The gear step: at most one transition, by the rows of R66, R67 and R68, from the demanded direction and the setpoint
of the previous expiry; an entry into DWELL opens the gear and loads the dwell timer, and a load of 0 passes on to
NEUTRAL (R65, R69). No engaged direction follows the other without DWELL between. -/
def Obligations.GearStepNeverReversesAtOnce : Prop :=
  ∀ (idle dwell : Nat) (dir : Direction) (c : EngineChannel),
    let n := c.gearStep idle dwell dir
    let open_ : EngineChannel :=
      if dwell = 0 then { c with gear := .neutral, engaged := .neutral, dwellTimer := none }
      else { c with gear := .dwell, engaged := .neutral, dwellTimer := some dwell }
    (c.gear = .dwell → n = c) ∧
    (c.gear = .neutral → n =
      match dir with
      | .neutral => c
      | .ahead => { c with gear := .ahead, engaged := .ahead, c := idle, a := 0 }
      | .astern => { c with gear := .astern, engaged := .astern, c := idle, a := 0 }) ∧
    (c.gear = .ahead → n = if dir = .ahead then c
      else if idle < c.c then { c with gear := .slowing, engaged := .ahead } else open_) ∧
    (c.gear = .astern → n = if dir = .astern then c
      else if idle < c.c then { c with gear := .slowing, engaged := .astern } else open_) ∧
    (c.gear = .slowing → n = if dir = c.engaged then
        (match dir with
          | .neutral => { c with gear := .neutral }
          | .ahead => { c with gear := .ahead }
          | .astern => { c with gear := .astern })
      else if idle < c.c then c else open_) ∧
    (c.engaged = .ahead → (c.gear = .ahead ∨ c.gear = .slowing) → n.engaged ≠ .astern) ∧
    (c.engaged = .astern → (c.gear = .astern ∨ c.gear = .slowing) → n.engaged ≠ .ahead)

/-- A ramp-timer expiry: the timer reloads; every channel takes its lever (0 when IDLED), direction, gear step and
setpoint stages, over the interval the timer was loaded with; a channel leaving ASTERN zeroes the targets of its FLANKING
actuators, and one moving into gear aborts a release that ENGINES_ENGAGED locks; the two groups are tested; and every
channel's output rpm, with its trim, goes out in a GOV-SET on M, in index order (R41, R42, R46, R58, R59, R71, R78, R79,
R90). That the derate level is read at the start is the model's choice (log entry 8). -/
def Obligations.RampTimerRunsThreePasses : Prop :=
  ∀ s : State, s.restart = none →
    let x (e : Fin 4) : EngineEntry := s.engineEntry e
    let lever (e : Fin 4) (c : EngineChannel) : Int := if c.fresh = .idled then 0 else s.station.lever[e]
    let dir (e : Fin 4) (c : EngineChannel) : Direction :=
      if ((x e).deadband : Int) < lever e c then .ahead
      else if lever e c < -((x e).deadband : Int) then .astern else .neutral
    let geared (e : Fin 4) (c : EngineChannel) : EngineChannel :=
      c.gearStep (x e).idle s.params.reversalDwell (dir e c)
    let one : Vector (Option EngineChannel) 4 := remap s.prop.channels fun e c => c.map fun c =>
      s.setpoint e s.coup.level s.prop.rampTimer (lever e c) (dir e c) (geared e c)
    let leaves (e : Fin 4) : Bool :=
      (s.prop.channels[e]).any fun c => decide (c.gear = .astern ∧ (geared e c).gear ≠ .astern)
    let engages : Prop := ∃ (e : Fin 4) (c : EngineChannel), s.prop.channels[e] = some c ∧
      (geared e c).gear ≠ c.gear ∧
      ((geared e c).gear = .ahead ∨ (geared e c).gear = .astern ∨ (geared e c).gear = .slowing)
    let zeroed (j : Fin 8) (a : Actuator) : Actuator :=
      if (s.actuatorEntry j).kind = .flanking ∧ leaves (s.actuatorEntry j).engine = true then
        { a with target := 0 } else a
    let actuators : Vector (Option Actuator) 8 := remap s.steer.actuators fun j a => a.map (zeroed j)
    let member (g : Nat) (e : Fin 4) (c : EngineChannel) : Prop := one[e] = some c ∧ (x e).group = g
    let lead (g : Nat) (k : Fin 4) : Prop := (∃ c, member g k c) ∧ ∀ j < k, ¬∃ c, member g j c
    let unison (g : Nat) (d : Direction) : Prop :=
      (∃ k j c, lead g k ∧ member g j c ∧ j ≠ k) ∧ ∃ target, ∀ k c, member g k c →
        c.fresh = .live ∧ c.lastTarget = target ∧
        (d = .ahead ∧ c.gear = .ahead ∨ d = .astern ∧ c.gear = .astern)
    let lim : Int := s.params.syncLimit
    ∀ (sync1 sync2 : Option Direction) (trim : Fin 4 → EngineChannel → Int),
      (∀ d, sync1 = some d ↔ unison 1 d) → (∀ d, sync2 = some d ↔ unison 2 d) →
      (∀ (e : Fin 4) (c : EngineChannel), one[e] = some c →
        let grouped : Prop := (x e).group = 1 ∨ (x e).group = 2
        let still : Prop := (x e).group = 1 ∧ sync1 = none ∨ (x e).group = 2 ∧ sync2 = none ∨ lead (x e).group e
        (grouped → still → trim e c = 0) ∧
        (grouped → ¬still → trim e c = max (-lim) (min lim c.trim)) ∧ (¬grouped → trim e c = c.trim)) →
      let three : Vector (Option EngineChannel) 4 := remap one fun e c => c.map fun c =>
        ({ c with trim := trim e c,
                  lastOutput := (max ((x e).idle : Int) (min c.lastCap (c.c + trim e c))).toNat } : EngineChannel)
      let prop : PropulsionUnit :=
        { rampTimer := s.params.propInterval, channels := three, sync1 := sync1, sync2 := sync2 }
      let t : State := { s with prop := prop, steer := { s.steer with actuators := actuators } }
      let send (u : State) (e : Fin 4) : State :=
        match three[e] with
        | none => u
        | some c =>
          let gear : Byte :=
            match c.gear, c.engaged with
            | .ahead, _ => 1
            | .astern, _ => 2
            | .slowing, .ahead => 1
            | .slowing, .astern => 2
            | _, _ => 0
          u.offerUrgent .m (frameOf 1 (x e).channel (fieldOf 2 c.lastOutput ++ [gear]))
      ((∀ i, s.coup.slot = some i → (s.couplingEntry i).hasLock .enginesEngaged = true → ¬engages) →
        exec .rampTimerExpiry s = .next ((List.finRange 4).foldl send t)) ∧
      (∀ i, s.coup.slot = some i → (s.couplingEntry i).hasLock .enginesEngaged = true → engages →
        exec .rampTimerExpiry s = .next ((List.finRange 4).foldl send (t.abortRelease i)))

/-- The expiries of the channel timers and the helm timer. A channel in DWELL passes to NEUTRAL (R70). A freshness expiry
takes LIVE to HOLDING, or on to IDLED when LEVER_HOLD is 0, with LEVER_LOST (R73); a hold expiry takes HOLDING to IDLED
(R74). The helm expiry takes LIVE to HELD, with HELM_LOST for the command station (R96). -/
def Obligations.EngineAndHelmTimersExpire : Prop :=
  ∀ (e : Fin 4) (s : State), s.restart = none →
    let with_ (c : EngineChannel) : State :=
      { s with prop := { s.prop with channels := put s.prop.channels e (some c) } }
    let load := s.params.leverHold
    (∀ c : EngineChannel, s.prop.channels[e] = some c →
      (c.gear = .dwell → c.dwellTimer ≠ none →
        exec (.dwellTimerExpiry e) s = .next (with_ { c with gear := .neutral, dwellTimer := none })) ∧
      (c.freshTimer ≠ none → exec (.freshnessTimerExpiry e) s = .next ((with_ { c with
        fresh := if load = 0 then .idled else .holding, freshTimer := none
        holdTimer := if load = 0 then none else some load }).raise .leverLost e.val)) ∧
      (c.holdTimer ≠ none →
        exec (.holdTimerExpiry e) s = .next (with_ { c with fresh := .idled, holdTimer := none }))) ∧
    (s.steer.helmTimer ≠ none → exec .helmTimerExpiry s = .next
      (({ s with steer := { s.steer with helmFresh := .held, helmTimer := none } } : State).raise .helmLost
        s.station.command.val))

/-- A steering-timer expiry: the timer reloads and the actuators are taken in index order. FOLLOWING steps toward its
target at the effective rate and is cut to the effective limit; FAULT keeps its output; both form the target from helm,
gain, zero forcing and limit, and send their output in a RUD-SET or BOW-SET; ALIGN and GATED do nothing (R87 to R93,
R100). A stepping that makes BOW_ACTIVE come about aborts a release it locks (R104, R139), which the model does before
the frame is offered (log entry 6). The level read at the start is the model's choice (log entry 8). The first clause is
the entry in use (R86). -/
def Obligations.SteeringTimerStepsEveryActuator : Prop :=
  (∀ (j : Fin 8) (s : State),
    let w (k : Nat) : Nat := ((s.table .actuator).words.getD (j.val * 9 + k) 0).toNat
    let x := s.actuatorEntry j
    let gain : Int := if w 5 < 32768 then w 5 else (w 5 : Int) - 65536
    x.kind = (if w 1 = 1 then .flanking else if w 1 = 2 then .bow else .main) ∧ x.port = (if w 2 = 2 then .t else .m) ∧
    x.channel = min 63 (w 3) ∧ x.engine.val = min 3 (w 4) ∧ x.gain = max (-2500) (min 2500 gain) ∧
    x.limit = min (if w 1 = 2 then 1000 else 450) (w 6) ∧ x.rate = max 1 (min 600 (w 7)) ∧ x.bow.val = min 47 (w 8) ∧
    (s.actuatorEnabled j = true ↔
      (s.table .actuator).state = .ready ∧ j.val < (s.table .actuator).count ∧ w 0 ≠ 0)) ∧
  (∀ s : State, s.restart = none →
      let level := s.coup.level
      let turn (t : State) (j : Fin 8) : State :=
        let x := s.actuatorEntry j
        let limit := if 3 ≤ level ∧ x.kind ≠ .bow then x.limit * 2 / 3 else x.limit
        let rate := if 2 ≤ level then max 1 (x.rate / 2) else x.rate
        let astern : Bool := ((s.prop.channels[x.engine]).map fun c => decide (c.gear = .astern)).getD false
        let raw : Int := if x.kind = .flanking ∧ astern = false then 0 else (s.station.helm * x.gain).tdiv 1000
        let target : Int := max (-(limit : Int)) (min limit raw)
        let port : Port := if x.kind = .bow then .t else x.port
        let frame (v : Int) := frameOf (if x.kind = .bow then 3 else 2) x.channel (signedField 2 v)
        let with_ (a : Actuator) : State :=
          { t with steer := { t.steer with actuators := put t.steer.actuators j (some a) } }
        match t.steer.actuators[j] with
        | none => t
        | some a =>
          match a.state with
          | .align => t
          | .gated => t
          | .fault => (with_ { a with target := target }).offerUrgent port (frame a.output)
          | .following =>
            let n := rampStep target rate rate s.steer.steeringTimer { pos := a.output, rem := a.remainder, dir := a.ramp }
            let cut : Prop := (limit : Int) < n.pos ∨ n.pos < -(limit : Int)
            let out : Int := max (-(limit : Int)) (min limit n.pos)
            let moved := with_ { a with target := target, output := out, ramp := n.dir,
                                        remainder := if cut then 0 else n.rem }
            (if t.bowActive = false ∧ moved.bowActive = true then moved.checkLock .bowActive else moved).offerUrgent
              port (frame out)
      exec .steeringTimerExpiry s = .next ((List.finRange 8).foldl turn
        { s with steer := { s.steer with steeringTimer := s.params.steerInterval } }))

/-! ### Invariants that every step keeps -/

/-- Every step keeps the tables and their records sound: a table's words fill its declared extent, EMPTY means no entry,
a cause means REJECTED, the slot holds exactly the LOADING table, the write index lies within its extent, and a record
exists exactly for each enabled entry of a READY table (R63, R85, R108, R166, R183, R184, R185). -/
def Obligations.EveryStepKeepsTablesAndRecords : Prop :=
  (∀ s t : State, s.tablesSound = true → step s = .next t → t.tablesSound = true) ∧
  (∀ s t : State, s.tablesSound = true → s.recordsSound = true → step s = .next t → t.recordsSound = true)

/-- Every step keeps a FLANKING target at 0 while its engine is not in ASTERN (R90), and a BOW actuator GATED, at output
0, exactly while its coupling is not MADE (R102, R103). -/
def Obligations.EveryStepKeepsSteering : Prop :=
  ∀ s t : State, s.tablesSound = true → s.recordsSound = true → s.steeringSound = true → step s = .next t →
    t.steeringSound = true

/-- Every step keeps the derate level at or above every contribution while COUPLING is READY (R124), and keeps the
release slot, its timer and the RELEASING record in step, with no interlock of the releasing coupling standing (R133,
R139). -/
def Obligations.EveryStepKeepsDerateAndRelease : Prop :=
  (∀ s t : State, s.tablesSound = true → s.derateSound = true → step s = .next t → t.derateSound = true) ∧
  (∀ s t : State, s.tablesSound = true → s.recordsSound = true → s.releaseSound = true → step s = .next t →
    t.releaseSound = true)

/-- Every step keeps each tank's identity, balance = loaded + credits - debits + shortfall - excess, its balance within
the capacity in use, and its reserve state true exactly below its reserve (R170, R171). -/
def Obligations.EveryStepKeepsTanks : Prop :=
  ∀ s t : State, s.tablesSound = true → s.recordsSound = true → s.tanksSound = true → step s = .next t →
    t.tanksSound = true

/-- Every step keeps each engine channel in range: its setpoint between idle and 3000, target and output between idle and
the cap, idle in an open gear, an engaged direction exactly in gear, a dwell timer exactly in DWELL (R44, R53, R58, R63,
R69). -/
def Obligations.EveryStepKeepsChannels : Prop :=
  ∀ s t : State, s.tablesSound = true → s.recordsSound = true → s.channelsSound = true → step s = .next t →
    t.channelsSound = true
end

