-- ==== Sys2Proof/Laws/State.lean ====
section
/-! SUPPORT. What each named update of State leaves in each field: one lemma per field per update, true by
definition. -/

namespace Sys2Proof.Machine

@[simp] theorem State.withTable_comms (t : TableId) (x : Table) (s : State) : (s.withTable t x).comms = s.comms := rfl
@[simp] theorem State.withTable_station (t : TableId) (x : Table) (s : State) : (s.withTable t x).station = s.station := rfl
@[simp] theorem State.withTable_prop (t : TableId) (x : Table) (s : State) : (s.withTable t x).prop = s.prop := rfl
@[simp] theorem State.withTable_steer (t : TableId) (x : Table) (s : State) : (s.withTable t x).steer = s.steer := rfl
@[simp] theorem State.withTable_coup (t : TableId) (x : Table) (s : State) : (s.withTable t x).coup = s.coup := rfl
@[simp] theorem State.withTable_fuel (t : TableId) (x : Table) (s : State) : (s.withTable t x).fuel = s.fuel := rfl
@[simp] theorem State.withTable_mgmt (t : TableId) (x : Table) (s : State) :
    (s.withTable t x).mgmt = { s.mgmt with tables := put s.mgmt.tables (tableNum t) x } := rfl
@[simp] theorem State.withTable_params (t : TableId) (x : Table) (s : State) : (s.withTable t x).params = s.params := rfl
@[simp] theorem State.withTable_straps (t : TableId) (x : Table) (s : State) : (s.withTable t x).straps = s.straps := rfl
@[simp] theorem State.withTable_channel (t : TableId) (x : Table) (s : State) : (s.withTable t x).channel = s.channel := rfl
@[simp] theorem State.withTable_restart (t : TableId) (x : Table) (s : State) : (s.withTable t x).restart = s.restart := rfl
@[simp] theorem State.withTable_replyWait (t : TableId) (x : Table) (s : State) : (s.withTable t x).replyWait = s.replyWait := rfl
@[simp] theorem State.withTable_pending (t : TableId) (x : Table) (s : State) : (s.withTable t x).pending = s.pending := rfl

@[simp] theorem State.onPort_comms (p : Port) (f : PortUnit → PortUnit) (s : State) :
    (s.onPort p f).comms = s.comms.setPort p (f (s.comms.port p)) := rfl
@[simp] theorem State.onPort_station (p : Port) (f : PortUnit → PortUnit) (s : State) : (s.onPort p f).station = s.station := rfl
@[simp] theorem State.onPort_prop (p : Port) (f : PortUnit → PortUnit) (s : State) : (s.onPort p f).prop = s.prop := rfl
@[simp] theorem State.onPort_steer (p : Port) (f : PortUnit → PortUnit) (s : State) : (s.onPort p f).steer = s.steer := rfl
@[simp] theorem State.onPort_coup (p : Port) (f : PortUnit → PortUnit) (s : State) : (s.onPort p f).coup = s.coup := rfl
@[simp] theorem State.onPort_fuel (p : Port) (f : PortUnit → PortUnit) (s : State) : (s.onPort p f).fuel = s.fuel := rfl
@[simp] theorem State.onPort_mgmt (p : Port) (f : PortUnit → PortUnit) (s : State) : (s.onPort p f).mgmt = s.mgmt := rfl
@[simp] theorem State.onPort_params (p : Port) (f : PortUnit → PortUnit) (s : State) : (s.onPort p f).params = s.params := rfl
@[simp] theorem State.onPort_straps (p : Port) (f : PortUnit → PortUnit) (s : State) : (s.onPort p f).straps = s.straps := rfl
@[simp] theorem State.onPort_channel (p : Port) (f : PortUnit → PortUnit) (s : State) : (s.onPort p f).channel = s.channel := rfl
@[simp] theorem State.onPort_restart (p : Port) (f : PortUnit → PortUnit) (s : State) : (s.onPort p f).restart = s.restart := rfl
@[simp] theorem State.onPort_replyWait (p : Port) (f : PortUnit → PortUnit) (s : State) : (s.onPort p f).replyWait = s.replyWait := rfl
@[simp] theorem State.onPort_pending (p : Port) (f : PortUnit → PortUnit) (s : State) : (s.onPort p f).pending = s.pending := rfl

@[simp] theorem State.withdraw_comms (p : Port) (key : BitVec 11 × Option Byte) (s : State) :
    (s.withdraw p key).comms = s.comms.setPort p ((s.comms.port p).withdraw key) := rfl
@[simp] theorem State.withdraw_station (p : Port) (key : BitVec 11 × Option Byte) (s : State) : (s.withdraw p key).station = s.station := rfl
@[simp] theorem State.withdraw_prop (p : Port) (key : BitVec 11 × Option Byte) (s : State) : (s.withdraw p key).prop = s.prop := rfl
@[simp] theorem State.withdraw_steer (p : Port) (key : BitVec 11 × Option Byte) (s : State) : (s.withdraw p key).steer = s.steer := rfl
@[simp] theorem State.withdraw_coup (p : Port) (key : BitVec 11 × Option Byte) (s : State) : (s.withdraw p key).coup = s.coup := rfl
@[simp] theorem State.withdraw_fuel (p : Port) (key : BitVec 11 × Option Byte) (s : State) : (s.withdraw p key).fuel = s.fuel := rfl
@[simp] theorem State.withdraw_mgmt (p : Port) (key : BitVec 11 × Option Byte) (s : State) : (s.withdraw p key).mgmt = s.mgmt := rfl
@[simp] theorem State.withdraw_params (p : Port) (key : BitVec 11 × Option Byte) (s : State) : (s.withdraw p key).params = s.params := rfl
@[simp] theorem State.withdraw_straps (p : Port) (key : BitVec 11 × Option Byte) (s : State) : (s.withdraw p key).straps = s.straps := rfl
@[simp] theorem State.withdraw_channel (p : Port) (key : BitVec 11 × Option Byte) (s : State) : (s.withdraw p key).channel = s.channel := rfl
@[simp] theorem State.withdraw_restart (p : Port) (key : BitVec 11 × Option Byte) (s : State) : (s.withdraw p key).restart = s.restart := rfl
@[simp] theorem State.withdraw_replyWait (p : Port) (key : BitVec 11 × Option Byte) (s : State) : (s.withdraw p key).replyWait = s.replyWait := rfl
@[simp] theorem State.withdraw_pending (p : Port) (key : BitVec 11 × Option Byte) (s : State) : (s.withdraw p key).pending = s.pending := rfl

@[simp] theorem State.raise_comms (k : NoticeKind) (i : Nat) (s : State) :
    (s.raise k i).comms = s.comms.raise s.env k i := rfl
@[simp] theorem State.raise_station (k : NoticeKind) (i : Nat) (s : State) : (s.raise k i).station = s.station := rfl
@[simp] theorem State.raise_prop (k : NoticeKind) (i : Nat) (s : State) : (s.raise k i).prop = s.prop := rfl
@[simp] theorem State.raise_steer (k : NoticeKind) (i : Nat) (s : State) : (s.raise k i).steer = s.steer := rfl
@[simp] theorem State.raise_coup (k : NoticeKind) (i : Nat) (s : State) : (s.raise k i).coup = s.coup := rfl
@[simp] theorem State.raise_fuel (k : NoticeKind) (i : Nat) (s : State) : (s.raise k i).fuel = s.fuel := rfl
@[simp] theorem State.raise_mgmt (k : NoticeKind) (i : Nat) (s : State) : (s.raise k i).mgmt = s.mgmt := rfl
@[simp] theorem State.raise_params (k : NoticeKind) (i : Nat) (s : State) : (s.raise k i).params = s.params := rfl
@[simp] theorem State.raise_straps (k : NoticeKind) (i : Nat) (s : State) : (s.raise k i).straps = s.straps := rfl
@[simp] theorem State.raise_channel (k : NoticeKind) (i : Nat) (s : State) : (s.raise k i).channel = s.channel := rfl
@[simp] theorem State.raise_restart (k : NoticeKind) (i : Nat) (s : State) : (s.raise k i).restart = s.restart := rfl
@[simp] theorem State.raise_replyWait (k : NoticeKind) (i : Nat) (s : State) : (s.raise k i).replyWait = s.replyWait := rfl
@[simp] theorem State.raise_pending (k : NoticeKind) (i : Nat) (s : State) : (s.raise k i).pending = s.pending := rfl

@[simp] theorem State.offerLow_comms (p : Port) (c : LowClass) (f : Frame) (s : State) :
    (s.offerLow p c f).comms = s.comms.offerLow s.env p c f := rfl
@[simp] theorem State.offerLow_station (p : Port) (c : LowClass) (f : Frame) (s : State) : (s.offerLow p c f).station = s.station := rfl
@[simp] theorem State.offerLow_prop (p : Port) (c : LowClass) (f : Frame) (s : State) : (s.offerLow p c f).prop = s.prop := rfl
@[simp] theorem State.offerLow_steer (p : Port) (c : LowClass) (f : Frame) (s : State) : (s.offerLow p c f).steer = s.steer := rfl
@[simp] theorem State.offerLow_coup (p : Port) (c : LowClass) (f : Frame) (s : State) : (s.offerLow p c f).coup = s.coup := rfl
@[simp] theorem State.offerLow_fuel (p : Port) (c : LowClass) (f : Frame) (s : State) : (s.offerLow p c f).fuel = s.fuel := rfl
@[simp] theorem State.offerLow_mgmt (p : Port) (c : LowClass) (f : Frame) (s : State) : (s.offerLow p c f).mgmt = s.mgmt := rfl
@[simp] theorem State.offerLow_params (p : Port) (c : LowClass) (f : Frame) (s : State) : (s.offerLow p c f).params = s.params := rfl
@[simp] theorem State.offerLow_straps (p : Port) (c : LowClass) (f : Frame) (s : State) : (s.offerLow p c f).straps = s.straps := rfl
@[simp] theorem State.offerLow_channel (p : Port) (c : LowClass) (f : Frame) (s : State) : (s.offerLow p c f).channel = s.channel := rfl
@[simp] theorem State.offerLow_restart (p : Port) (c : LowClass) (f : Frame) (s : State) : (s.offerLow p c f).restart = s.restart := rfl
@[simp] theorem State.offerLow_replyWait (p : Port) (c : LowClass) (f : Frame) (s : State) : (s.offerLow p c f).replyWait = s.replyWait := rfl
@[simp] theorem State.offerLow_pending (p : Port) (c : LowClass) (f : Frame) (s : State) : (s.offerLow p c f).pending = s.pending := rfl

@[simp] theorem State.offerUrgent_comms (p : Port) (f : Frame) (s : State) :
    (s.offerUrgent p f).comms = s.comms.offerUrgent s.env p f := rfl
@[simp] theorem State.offerUrgent_station (p : Port) (f : Frame) (s : State) : (s.offerUrgent p f).station = s.station := rfl
@[simp] theorem State.offerUrgent_prop (p : Port) (f : Frame) (s : State) : (s.offerUrgent p f).prop = s.prop := rfl
@[simp] theorem State.offerUrgent_steer (p : Port) (f : Frame) (s : State) : (s.offerUrgent p f).steer = s.steer := rfl
@[simp] theorem State.offerUrgent_coup (p : Port) (f : Frame) (s : State) : (s.offerUrgent p f).coup = s.coup := rfl
@[simp] theorem State.offerUrgent_fuel (p : Port) (f : Frame) (s : State) : (s.offerUrgent p f).fuel = s.fuel := rfl
@[simp] theorem State.offerUrgent_mgmt (p : Port) (f : Frame) (s : State) : (s.offerUrgent p f).mgmt = s.mgmt := rfl
@[simp] theorem State.offerUrgent_params (p : Port) (f : Frame) (s : State) : (s.offerUrgent p f).params = s.params := rfl
@[simp] theorem State.offerUrgent_straps (p : Port) (f : Frame) (s : State) : (s.offerUrgent p f).straps = s.straps := rfl
@[simp] theorem State.offerUrgent_channel (p : Port) (f : Frame) (s : State) : (s.offerUrgent p f).channel = s.channel := rfl
@[simp] theorem State.offerUrgent_restart (p : Port) (f : Frame) (s : State) : (s.offerUrgent p f).restart = s.restart := rfl
@[simp] theorem State.offerUrgent_replyWait (p : Port) (f : Frame) (s : State) : (s.offerUrgent p f).replyWait = s.replyWait := rfl
@[simp] theorem State.offerUrgent_pending (p : Port) (f : Frame) (s : State) : (s.offerUrgent p f).pending = s.pending := rfl

@[simp] theorem State.withActuator_comms (j : Fin 8) (a : Actuator) (s : State) : (s.withActuator j a).comms = s.comms := rfl
@[simp] theorem State.withActuator_station (j : Fin 8) (a : Actuator) (s : State) : (s.withActuator j a).station = s.station := rfl
@[simp] theorem State.withActuator_prop (j : Fin 8) (a : Actuator) (s : State) : (s.withActuator j a).prop = s.prop := rfl
@[simp] theorem State.withActuator_steer (j : Fin 8) (a : Actuator) (s : State) :
    (s.withActuator j a).steer = { s.steer with actuators := put s.steer.actuators j (some a) } := rfl
@[simp] theorem State.withActuator_coup (j : Fin 8) (a : Actuator) (s : State) : (s.withActuator j a).coup = s.coup := rfl
@[simp] theorem State.withActuator_fuel (j : Fin 8) (a : Actuator) (s : State) : (s.withActuator j a).fuel = s.fuel := rfl
@[simp] theorem State.withActuator_mgmt (j : Fin 8) (a : Actuator) (s : State) : (s.withActuator j a).mgmt = s.mgmt := rfl
@[simp] theorem State.withActuator_params (j : Fin 8) (a : Actuator) (s : State) : (s.withActuator j a).params = s.params := rfl
@[simp] theorem State.withActuator_straps (j : Fin 8) (a : Actuator) (s : State) : (s.withActuator j a).straps = s.straps := rfl
@[simp] theorem State.withActuator_channel (j : Fin 8) (a : Actuator) (s : State) : (s.withActuator j a).channel = s.channel := rfl
@[simp] theorem State.withActuator_restart (j : Fin 8) (a : Actuator) (s : State) : (s.withActuator j a).restart = s.restart := rfl
@[simp] theorem State.withActuator_replyWait (j : Fin 8) (a : Actuator) (s : State) : (s.withActuator j a).replyWait = s.replyWait := rfl
@[simp] theorem State.withActuator_pending (j : Fin 8) (a : Actuator) (s : State) : (s.withActuator j a).pending = s.pending := rfl

@[simp] theorem State.withCoupling_comms (i : Fin 48) (r : CouplingRecord) (s : State) : (s.withCoupling i r).comms = s.comms := rfl
@[simp] theorem State.withCoupling_station (i : Fin 48) (r : CouplingRecord) (s : State) : (s.withCoupling i r).station = s.station := rfl
@[simp] theorem State.withCoupling_prop (i : Fin 48) (r : CouplingRecord) (s : State) : (s.withCoupling i r).prop = s.prop := rfl
@[simp] theorem State.withCoupling_steer (i : Fin 48) (r : CouplingRecord) (s : State) : (s.withCoupling i r).steer = s.steer := rfl
@[simp] theorem State.withCoupling_coup (i : Fin 48) (r : CouplingRecord) (s : State) :
    (s.withCoupling i r).coup = { s.coup with records := put s.coup.records i (some r) } := rfl
@[simp] theorem State.withCoupling_fuel (i : Fin 48) (r : CouplingRecord) (s : State) : (s.withCoupling i r).fuel = s.fuel := rfl
@[simp] theorem State.withCoupling_mgmt (i : Fin 48) (r : CouplingRecord) (s : State) : (s.withCoupling i r).mgmt = s.mgmt := rfl
@[simp] theorem State.withCoupling_params (i : Fin 48) (r : CouplingRecord) (s : State) : (s.withCoupling i r).params = s.params := rfl
@[simp] theorem State.withCoupling_straps (i : Fin 48) (r : CouplingRecord) (s : State) : (s.withCoupling i r).straps = s.straps := rfl
@[simp] theorem State.withCoupling_channel (i : Fin 48) (r : CouplingRecord) (s : State) : (s.withCoupling i r).channel = s.channel := rfl
@[simp] theorem State.withCoupling_restart (i : Fin 48) (r : CouplingRecord) (s : State) : (s.withCoupling i r).restart = s.restart := rfl
@[simp] theorem State.withCoupling_replyWait (i : Fin 48) (r : CouplingRecord) (s : State) : (s.withCoupling i r).replyWait = s.replyWait := rfl
@[simp] theorem State.withCoupling_pending (i : Fin 48) (r : CouplingRecord) (s : State) : (s.withCoupling i r).pending = s.pending := rfl

@[simp] theorem State.stopRelease_comms (s : State) : (s.stopRelease).comms = s.comms := rfl
@[simp] theorem State.stopRelease_station (s : State) : (s.stopRelease).station = s.station := rfl
@[simp] theorem State.stopRelease_prop (s : State) : (s.stopRelease).prop = s.prop := rfl
@[simp] theorem State.stopRelease_steer (s : State) : (s.stopRelease).steer = s.steer := rfl
@[simp] theorem State.stopRelease_coup (s : State) :
    (s.stopRelease).coup = { s.coup with releaseTimer := none } := rfl
@[simp] theorem State.stopRelease_fuel (s : State) : (s.stopRelease).fuel = s.fuel := rfl
@[simp] theorem State.stopRelease_mgmt (s : State) : (s.stopRelease).mgmt = s.mgmt := rfl
@[simp] theorem State.stopRelease_params (s : State) : (s.stopRelease).params = s.params := rfl
@[simp] theorem State.stopRelease_straps (s : State) : (s.stopRelease).straps = s.straps := rfl
@[simp] theorem State.stopRelease_channel (s : State) : (s.stopRelease).channel = s.channel := rfl
@[simp] theorem State.stopRelease_restart (s : State) : (s.stopRelease).restart = s.restart := rfl
@[simp] theorem State.stopRelease_replyWait (s : State) : (s.stopRelease).replyWait = s.replyWait := rfl
@[simp] theorem State.stopRelease_pending (s : State) : (s.stopRelease).pending = s.pending := rfl

@[simp] theorem State.emptySlot_comms (s : State) : (s.emptySlot).comms = s.comms := rfl
@[simp] theorem State.emptySlot_station (s : State) : (s.emptySlot).station = s.station := rfl
@[simp] theorem State.emptySlot_prop (s : State) : (s.emptySlot).prop = s.prop := rfl
@[simp] theorem State.emptySlot_steer (s : State) : (s.emptySlot).steer = s.steer := rfl
@[simp] theorem State.emptySlot_coup (s : State) :
    (s.emptySlot).coup = { s.coup with slot := none } := rfl
@[simp] theorem State.emptySlot_fuel (s : State) : (s.emptySlot).fuel = s.fuel := rfl
@[simp] theorem State.emptySlot_mgmt (s : State) : (s.emptySlot).mgmt = s.mgmt := rfl
@[simp] theorem State.emptySlot_params (s : State) : (s.emptySlot).params = s.params := rfl
@[simp] theorem State.emptySlot_straps (s : State) : (s.emptySlot).straps = s.straps := rfl
@[simp] theorem State.emptySlot_channel (s : State) : (s.emptySlot).channel = s.channel := rfl
@[simp] theorem State.emptySlot_restart (s : State) : (s.emptySlot).restart = s.restart := rfl
@[simp] theorem State.emptySlot_replyWait (s : State) : (s.emptySlot).replyWait = s.replyWait := rfl
@[simp] theorem State.emptySlot_pending (s : State) : (s.emptySlot).pending = s.pending := rfl

@[simp] theorem State.withChannel_comms (e : Fin 4) (ch : EngineChannel) (s : State) : (s.withChannel e ch).comms = s.comms := rfl
@[simp] theorem State.withChannel_station (e : Fin 4) (ch : EngineChannel) (s : State) : (s.withChannel e ch).station = s.station := rfl
@[simp] theorem State.withChannel_prop (e : Fin 4) (ch : EngineChannel) (s : State) :
    (s.withChannel e ch).prop = { s.prop with channels := put s.prop.channels e (some ch) } := rfl
@[simp] theorem State.withChannel_steer (e : Fin 4) (ch : EngineChannel) (s : State) : (s.withChannel e ch).steer = s.steer := rfl
@[simp] theorem State.withChannel_coup (e : Fin 4) (ch : EngineChannel) (s : State) : (s.withChannel e ch).coup = s.coup := rfl
@[simp] theorem State.withChannel_fuel (e : Fin 4) (ch : EngineChannel) (s : State) : (s.withChannel e ch).fuel = s.fuel := rfl
@[simp] theorem State.withChannel_mgmt (e : Fin 4) (ch : EngineChannel) (s : State) : (s.withChannel e ch).mgmt = s.mgmt := rfl
@[simp] theorem State.withChannel_params (e : Fin 4) (ch : EngineChannel) (s : State) : (s.withChannel e ch).params = s.params := rfl
@[simp] theorem State.withChannel_straps (e : Fin 4) (ch : EngineChannel) (s : State) : (s.withChannel e ch).straps = s.straps := rfl
@[simp] theorem State.withChannel_channel (e : Fin 4) (ch : EngineChannel) (s : State) : (s.withChannel e ch).channel = s.channel := rfl
@[simp] theorem State.withChannel_restart (e : Fin 4) (ch : EngineChannel) (s : State) : (s.withChannel e ch).restart = s.restart := rfl
@[simp] theorem State.withChannel_replyWait (e : Fin 4) (ch : EngineChannel) (s : State) : (s.withChannel e ch).replyWait = s.replyWait := rfl
@[simp] theorem State.withChannel_pending (e : Fin 4) (ch : EngineChannel) (s : State) : (s.withChannel e ch).pending = s.pending := rfl

@[simp] theorem State.withTank_comms (t : Fin 8) (r : TankRecord) (s : State) : (s.withTank t r).comms = s.comms := rfl
@[simp] theorem State.withTank_station (t : Fin 8) (r : TankRecord) (s : State) : (s.withTank t r).station = s.station := rfl
@[simp] theorem State.withTank_prop (t : Fin 8) (r : TankRecord) (s : State) : (s.withTank t r).prop = s.prop := rfl
@[simp] theorem State.withTank_steer (t : Fin 8) (r : TankRecord) (s : State) : (s.withTank t r).steer = s.steer := rfl
@[simp] theorem State.withTank_coup (t : Fin 8) (r : TankRecord) (s : State) : (s.withTank t r).coup = s.coup := rfl
@[simp] theorem State.withTank_fuel (t : Fin 8) (r : TankRecord) (s : State) :
    (s.withTank t r).fuel = { s.fuel with tanks := put s.fuel.tanks t (some r) } := rfl
@[simp] theorem State.withTank_mgmt (t : Fin 8) (r : TankRecord) (s : State) : (s.withTank t r).mgmt = s.mgmt := rfl
@[simp] theorem State.withTank_params (t : Fin 8) (r : TankRecord) (s : State) : (s.withTank t r).params = s.params := rfl
@[simp] theorem State.withTank_straps (t : Fin 8) (r : TankRecord) (s : State) : (s.withTank t r).straps = s.straps := rfl
@[simp] theorem State.withTank_channel (t : Fin 8) (r : TankRecord) (s : State) : (s.withTank t r).channel = s.channel := rfl
@[simp] theorem State.withTank_restart (t : Fin 8) (r : TankRecord) (s : State) : (s.withTank t r).restart = s.restart := rfl
@[simp] theorem State.withTank_replyWait (t : Fin 8) (r : TankRecord) (s : State) : (s.withTank t r).replyWait = s.replyWait := rfl
@[simp] theorem State.withTank_pending (t : Fin 8) (r : TankRecord) (s : State) : (s.withTank t r).pending = s.pending := rfl

@[simp] theorem State.withMeter_comms (i : Fin 8) (r : MeterRecord) (s : State) : (s.withMeter i r).comms = s.comms := rfl
@[simp] theorem State.withMeter_station (i : Fin 8) (r : MeterRecord) (s : State) : (s.withMeter i r).station = s.station := rfl
@[simp] theorem State.withMeter_prop (i : Fin 8) (r : MeterRecord) (s : State) : (s.withMeter i r).prop = s.prop := rfl
@[simp] theorem State.withMeter_steer (i : Fin 8) (r : MeterRecord) (s : State) : (s.withMeter i r).steer = s.steer := rfl
@[simp] theorem State.withMeter_coup (i : Fin 8) (r : MeterRecord) (s : State) : (s.withMeter i r).coup = s.coup := rfl
@[simp] theorem State.withMeter_fuel (i : Fin 8) (r : MeterRecord) (s : State) :
    (s.withMeter i r).fuel = { s.fuel with meters := put s.fuel.meters i r } := rfl
@[simp] theorem State.withMeter_mgmt (i : Fin 8) (r : MeterRecord) (s : State) : (s.withMeter i r).mgmt = s.mgmt := rfl
@[simp] theorem State.withMeter_params (i : Fin 8) (r : MeterRecord) (s : State) : (s.withMeter i r).params = s.params := rfl
@[simp] theorem State.withMeter_straps (i : Fin 8) (r : MeterRecord) (s : State) : (s.withMeter i r).straps = s.straps := rfl
@[simp] theorem State.withMeter_channel (i : Fin 8) (r : MeterRecord) (s : State) : (s.withMeter i r).channel = s.channel := rfl
@[simp] theorem State.withMeter_restart (i : Fin 8) (r : MeterRecord) (s : State) : (s.withMeter i r).restart = s.restart := rfl
@[simp] theorem State.withMeter_replyWait (i : Fin 8) (r : MeterRecord) (s : State) : (s.withMeter i r).replyWait = s.replyWait := rfl
@[simp] theorem State.withMeter_pending (i : Fin 8) (r : MeterRecord) (s : State) : (s.withMeter i r).pending = s.pending := rfl

@[simp] theorem State.withSnapshot_comms (x : Option Snapshot) (s : State) : (s.withSnapshot x).comms = s.comms := rfl
@[simp] theorem State.withSnapshot_station (x : Option Snapshot) (s : State) : (s.withSnapshot x).station = s.station := rfl
@[simp] theorem State.withSnapshot_prop (x : Option Snapshot) (s : State) : (s.withSnapshot x).prop = s.prop := rfl
@[simp] theorem State.withSnapshot_steer (x : Option Snapshot) (s : State) : (s.withSnapshot x).steer = s.steer := rfl
@[simp] theorem State.withSnapshot_coup (x : Option Snapshot) (s : State) : (s.withSnapshot x).coup = s.coup := rfl
@[simp] theorem State.withSnapshot_fuel (x : Option Snapshot) (s : State) :
    (s.withSnapshot x).fuel = { s.fuel with snapshot := x } := rfl
@[simp] theorem State.withSnapshot_mgmt (x : Option Snapshot) (s : State) : (s.withSnapshot x).mgmt = s.mgmt := rfl
@[simp] theorem State.withSnapshot_params (x : Option Snapshot) (s : State) : (s.withSnapshot x).params = s.params := rfl
@[simp] theorem State.withSnapshot_straps (x : Option Snapshot) (s : State) : (s.withSnapshot x).straps = s.straps := rfl
@[simp] theorem State.withSnapshot_channel (x : Option Snapshot) (s : State) : (s.withSnapshot x).channel = s.channel := rfl
@[simp] theorem State.withSnapshot_restart (x : Option Snapshot) (s : State) : (s.withSnapshot x).restart = s.restart := rfl
@[simp] theorem State.withSnapshot_replyWait (x : Option Snapshot) (s : State) : (s.withSnapshot x).replyWait = s.replyWait := rfl
@[simp] theorem State.withSnapshot_pending (x : Option Snapshot) (s : State) : (s.withSnapshot x).pending = s.pending := rfl

@[simp] theorem State.withStation_comms (i : Fin 4) (r : StationRecord) (s : State) : (s.withStation i r).comms = s.comms := rfl
@[simp] theorem State.withStation_station (i : Fin 4) (r : StationRecord) (s : State) :
    (s.withStation i r).station = { s.station with records := put s.station.records i r } := rfl
@[simp] theorem State.withStation_prop (i : Fin 4) (r : StationRecord) (s : State) : (s.withStation i r).prop = s.prop := rfl
@[simp] theorem State.withStation_steer (i : Fin 4) (r : StationRecord) (s : State) : (s.withStation i r).steer = s.steer := rfl
@[simp] theorem State.withStation_coup (i : Fin 4) (r : StationRecord) (s : State) : (s.withStation i r).coup = s.coup := rfl
@[simp] theorem State.withStation_fuel (i : Fin 4) (r : StationRecord) (s : State) : (s.withStation i r).fuel = s.fuel := rfl
@[simp] theorem State.withStation_mgmt (i : Fin 4) (r : StationRecord) (s : State) : (s.withStation i r).mgmt = s.mgmt := rfl
@[simp] theorem State.withStation_params (i : Fin 4) (r : StationRecord) (s : State) : (s.withStation i r).params = s.params := rfl
@[simp] theorem State.withStation_straps (i : Fin 4) (r : StationRecord) (s : State) : (s.withStation i r).straps = s.straps := rfl
@[simp] theorem State.withStation_channel (i : Fin 4) (r : StationRecord) (s : State) : (s.withStation i r).channel = s.channel := rfl
@[simp] theorem State.withStation_restart (i : Fin 4) (r : StationRecord) (s : State) : (s.withStation i r).restart = s.restart := rfl
@[simp] theorem State.withStation_replyWait (i : Fin 4) (r : StationRecord) (s : State) : (s.withStation i r).replyWait = s.replyWait := rfl
@[simp] theorem State.withStation_pending (i : Fin 4) (r : StationRecord) (s : State) : (s.withStation i r).pending = s.pending := rfl

@[simp] theorem State.withLevers_comms (v : Vector Int 4) (s : State) : (s.withLevers v).comms = s.comms := rfl
@[simp] theorem State.withLevers_station (v : Vector Int 4) (s : State) :
    (s.withLevers v).station = { s.station with lever := v } := rfl
@[simp] theorem State.withLevers_prop (v : Vector Int 4) (s : State) : (s.withLevers v).prop = s.prop := rfl
@[simp] theorem State.withLevers_steer (v : Vector Int 4) (s : State) : (s.withLevers v).steer = s.steer := rfl
@[simp] theorem State.withLevers_coup (v : Vector Int 4) (s : State) : (s.withLevers v).coup = s.coup := rfl
@[simp] theorem State.withLevers_fuel (v : Vector Int 4) (s : State) : (s.withLevers v).fuel = s.fuel := rfl
@[simp] theorem State.withLevers_mgmt (v : Vector Int 4) (s : State) : (s.withLevers v).mgmt = s.mgmt := rfl
@[simp] theorem State.withLevers_params (v : Vector Int 4) (s : State) : (s.withLevers v).params = s.params := rfl
@[simp] theorem State.withLevers_straps (v : Vector Int 4) (s : State) : (s.withLevers v).straps = s.straps := rfl
@[simp] theorem State.withLevers_channel (v : Vector Int 4) (s : State) : (s.withLevers v).channel = s.channel := rfl
@[simp] theorem State.withLevers_restart (v : Vector Int 4) (s : State) : (s.withLevers v).restart = s.restart := rfl
@[simp] theorem State.withLevers_replyWait (v : Vector Int 4) (s : State) : (s.withLevers v).replyWait = s.replyWait := rfl
@[simp] theorem State.withLevers_pending (v : Vector Int 4) (s : State) : (s.withLevers v).pending = s.pending := rfl

@[simp] theorem State.withHelm_comms (v : Int) (s : State) : (s.withHelm v).comms = s.comms := rfl
@[simp] theorem State.withHelm_station (v : Int) (s : State) :
    (s.withHelm v).station = { s.station with helm := v } := rfl
@[simp] theorem State.withHelm_prop (v : Int) (s : State) : (s.withHelm v).prop = s.prop := rfl
@[simp] theorem State.withHelm_steer (v : Int) (s : State) : (s.withHelm v).steer = s.steer := rfl
@[simp] theorem State.withHelm_coup (v : Int) (s : State) : (s.withHelm v).coup = s.coup := rfl
@[simp] theorem State.withHelm_fuel (v : Int) (s : State) : (s.withHelm v).fuel = s.fuel := rfl
@[simp] theorem State.withHelm_mgmt (v : Int) (s : State) : (s.withHelm v).mgmt = s.mgmt := rfl
@[simp] theorem State.withHelm_params (v : Int) (s : State) : (s.withHelm v).params = s.params := rfl
@[simp] theorem State.withHelm_straps (v : Int) (s : State) : (s.withHelm v).straps = s.straps := rfl
@[simp] theorem State.withHelm_channel (v : Int) (s : State) : (s.withHelm v).channel = s.channel := rfl
@[simp] theorem State.withHelm_restart (v : Int) (s : State) : (s.withHelm v).restart = s.restart := rfl
@[simp] theorem State.withHelm_replyWait (v : Int) (s : State) : (s.withHelm v).replyWait = s.replyWait := rfl
@[simp] theorem State.withHelm_pending (v : Int) (s : State) : (s.withHelm v).pending = s.pending := rfl

@[simp] theorem State.helmAccepted_comms (s : State) : (s.helmAccepted).comms = s.comms := rfl
@[simp] theorem State.helmAccepted_station (s : State) : (s.helmAccepted).station = s.station := rfl
@[simp] theorem State.helmAccepted_prop (s : State) : (s.helmAccepted).prop = s.prop := rfl
@[simp] theorem State.helmAccepted_steer (s : State) :
    (s.helmAccepted).steer = { s.steer with helmFresh := .live, helmTimer := some s.params.helmTimeout } := rfl
@[simp] theorem State.helmAccepted_coup (s : State) : (s.helmAccepted).coup = s.coup := rfl
@[simp] theorem State.helmAccepted_fuel (s : State) : (s.helmAccepted).fuel = s.fuel := rfl
@[simp] theorem State.helmAccepted_mgmt (s : State) : (s.helmAccepted).mgmt = s.mgmt := rfl
@[simp] theorem State.helmAccepted_params (s : State) : (s.helmAccepted).params = s.params := rfl
@[simp] theorem State.helmAccepted_straps (s : State) : (s.helmAccepted).straps = s.straps := rfl
@[simp] theorem State.helmAccepted_channel (s : State) : (s.helmAccepted).channel = s.channel := rfl
@[simp] theorem State.helmAccepted_restart (s : State) : (s.helmAccepted).restart = s.restart := rfl
@[simp] theorem State.helmAccepted_replyWait (s : State) : (s.helmAccepted).replyWait = s.replyWait := rfl
@[simp] theorem State.helmAccepted_pending (s : State) : (s.helmAccepted).pending = s.pending := rfl

@[simp] theorem State.zeroFlanking_comms (e : Fin 4) (s : State) : (s.zeroFlanking e).comms = s.comms := rfl
@[simp] theorem State.zeroFlanking_station (e : Fin 4) (s : State) : (s.zeroFlanking e).station = s.station := rfl
@[simp] theorem State.zeroFlanking_prop (e : Fin 4) (s : State) : (s.zeroFlanking e).prop = s.prop := rfl
@[simp] theorem State.zeroFlanking_coup (e : Fin 4) (s : State) : (s.zeroFlanking e).coup = s.coup := rfl
@[simp] theorem State.zeroFlanking_fuel (e : Fin 4) (s : State) : (s.zeroFlanking e).fuel = s.fuel := rfl
@[simp] theorem State.zeroFlanking_mgmt (e : Fin 4) (s : State) : (s.zeroFlanking e).mgmt = s.mgmt := rfl
@[simp] theorem State.zeroFlanking_params (e : Fin 4) (s : State) : (s.zeroFlanking e).params = s.params := rfl
@[simp] theorem State.zeroFlanking_straps (e : Fin 4) (s : State) : (s.zeroFlanking e).straps = s.straps := rfl
@[simp] theorem State.zeroFlanking_channel (e : Fin 4) (s : State) : (s.zeroFlanking e).channel = s.channel := rfl
@[simp] theorem State.zeroFlanking_restart (e : Fin 4) (s : State) : (s.zeroFlanking e).restart = s.restart := rfl
@[simp] theorem State.zeroFlanking_replyWait (e : Fin 4) (s : State) : (s.zeroFlanking e).replyWait = s.replyWait := rfl
@[simp] theorem State.zeroFlanking_pending (e : Fin 4) (s : State) : (s.zeroFlanking e).pending = s.pending := rfl

@[simp] theorem State.dropChannels_comms (s : State) : (s.dropChannels).comms = s.comms := rfl
@[simp] theorem State.dropChannels_station (s : State) : (s.dropChannels).station = s.station := rfl
@[simp] theorem State.dropChannels_prop (s : State) :
    (s.dropChannels).prop = { s.prop with channels := Vector.replicate 4 none, sync1 := none, sync2 := none } := rfl
@[simp] theorem State.dropChannels_steer (s : State) : (s.dropChannels).steer = s.steer := rfl
@[simp] theorem State.dropChannels_coup (s : State) : (s.dropChannels).coup = s.coup := rfl
@[simp] theorem State.dropChannels_fuel (s : State) : (s.dropChannels).fuel = s.fuel := rfl
@[simp] theorem State.dropChannels_mgmt (s : State) : (s.dropChannels).mgmt = s.mgmt := rfl
@[simp] theorem State.dropChannels_params (s : State) : (s.dropChannels).params = s.params := rfl
@[simp] theorem State.dropChannels_straps (s : State) : (s.dropChannels).straps = s.straps := rfl
@[simp] theorem State.dropChannels_channel (s : State) : (s.dropChannels).channel = s.channel := rfl
@[simp] theorem State.dropChannels_restart (s : State) : (s.dropChannels).restart = s.restart := rfl
@[simp] theorem State.dropChannels_replyWait (s : State) : (s.dropChannels).replyWait = s.replyWait := rfl
@[simp] theorem State.dropChannels_pending (s : State) : (s.dropChannels).pending = s.pending := rfl

@[simp] theorem State.createChannels_comms (s : State) : (s.createChannels).comms = s.comms := rfl
@[simp] theorem State.createChannels_station (s : State) : (s.createChannels).station = s.station := rfl
@[simp] theorem State.createChannels_steer (s : State) : (s.createChannels).steer = s.steer := rfl
@[simp] theorem State.createChannels_coup (s : State) : (s.createChannels).coup = s.coup := rfl
@[simp] theorem State.createChannels_fuel (s : State) : (s.createChannels).fuel = s.fuel := rfl
@[simp] theorem State.createChannels_mgmt (s : State) : (s.createChannels).mgmt = s.mgmt := rfl
@[simp] theorem State.createChannels_params (s : State) : (s.createChannels).params = s.params := rfl
@[simp] theorem State.createChannels_straps (s : State) : (s.createChannels).straps = s.straps := rfl
@[simp] theorem State.createChannels_channel (s : State) : (s.createChannels).channel = s.channel := rfl
@[simp] theorem State.createChannels_restart (s : State) : (s.createChannels).restart = s.restart := rfl
@[simp] theorem State.createChannels_replyWait (s : State) : (s.createChannels).replyWait = s.replyWait := rfl
@[simp] theorem State.createChannels_pending (s : State) : (s.createChannels).pending = s.pending := rfl

@[simp] theorem State.dropActuators_comms (s : State) : (s.dropActuators).comms = s.comms := rfl
@[simp] theorem State.dropActuators_station (s : State) : (s.dropActuators).station = s.station := rfl
@[simp] theorem State.dropActuators_prop (s : State) : (s.dropActuators).prop = s.prop := rfl
@[simp] theorem State.dropActuators_steer (s : State) :
    (s.dropActuators).steer = { s.steer with actuators := Vector.replicate 8 none } := rfl
@[simp] theorem State.dropActuators_coup (s : State) : (s.dropActuators).coup = s.coup := rfl
@[simp] theorem State.dropActuators_fuel (s : State) : (s.dropActuators).fuel = s.fuel := rfl
@[simp] theorem State.dropActuators_mgmt (s : State) : (s.dropActuators).mgmt = s.mgmt := rfl
@[simp] theorem State.dropActuators_params (s : State) : (s.dropActuators).params = s.params := rfl
@[simp] theorem State.dropActuators_straps (s : State) : (s.dropActuators).straps = s.straps := rfl
@[simp] theorem State.dropActuators_channel (s : State) : (s.dropActuators).channel = s.channel := rfl
@[simp] theorem State.dropActuators_restart (s : State) : (s.dropActuators).restart = s.restart := rfl
@[simp] theorem State.dropActuators_replyWait (s : State) : (s.dropActuators).replyWait = s.replyWait := rfl
@[simp] theorem State.dropActuators_pending (s : State) : (s.dropActuators).pending = s.pending := rfl

@[simp] theorem State.dropTanks_comms (s : State) : (s.dropTanks).comms = s.comms := rfl
@[simp] theorem State.dropTanks_station (s : State) : (s.dropTanks).station = s.station := rfl
@[simp] theorem State.dropTanks_prop (s : State) : (s.dropTanks).prop = s.prop := rfl
@[simp] theorem State.dropTanks_steer (s : State) : (s.dropTanks).steer = s.steer := rfl
@[simp] theorem State.dropTanks_coup (s : State) : (s.dropTanks).coup = s.coup := rfl
@[simp] theorem State.dropTanks_fuel (s : State) :
    (s.dropTanks).fuel = { s.fuel with tanks := Vector.replicate 8 none } := rfl
@[simp] theorem State.dropTanks_mgmt (s : State) : (s.dropTanks).mgmt = s.mgmt := rfl
@[simp] theorem State.dropTanks_params (s : State) : (s.dropTanks).params = s.params := rfl
@[simp] theorem State.dropTanks_straps (s : State) : (s.dropTanks).straps = s.straps := rfl
@[simp] theorem State.dropTanks_channel (s : State) : (s.dropTanks).channel = s.channel := rfl
@[simp] theorem State.dropTanks_restart (s : State) : (s.dropTanks).restart = s.restart := rfl
@[simp] theorem State.dropTanks_replyWait (s : State) : (s.dropTanks).replyWait = s.replyWait := rfl
@[simp] theorem State.dropTanks_pending (s : State) : (s.dropTanks).pending = s.pending := rfl

@[simp] theorem State.clearBaselines_comms (s : State) : (s.clearBaselines).comms = s.comms := rfl
@[simp] theorem State.clearBaselines_station (s : State) : (s.clearBaselines).station = s.station := rfl
@[simp] theorem State.clearBaselines_prop (s : State) : (s.clearBaselines).prop = s.prop := rfl
@[simp] theorem State.clearBaselines_steer (s : State) : (s.clearBaselines).steer = s.steer := rfl
@[simp] theorem State.clearBaselines_coup (s : State) : (s.clearBaselines).coup = s.coup := rfl
@[simp] theorem State.clearBaselines_mgmt (s : State) : (s.clearBaselines).mgmt = s.mgmt := rfl
@[simp] theorem State.clearBaselines_params (s : State) : (s.clearBaselines).params = s.params := rfl
@[simp] theorem State.clearBaselines_straps (s : State) : (s.clearBaselines).straps = s.straps := rfl
@[simp] theorem State.clearBaselines_channel (s : State) : (s.clearBaselines).channel = s.channel := rfl
@[simp] theorem State.clearBaselines_restart (s : State) : (s.clearBaselines).restart = s.restart := rfl
@[simp] theorem State.clearBaselines_replyWait (s : State) : (s.clearBaselines).replyWait = s.replyWait := rfl
@[simp] theorem State.clearBaselines_pending (s : State) : (s.clearBaselines).pending = s.pending := rfl

@[simp] theorem State.reloadStations_comms (s : State) : (s.reloadStations).comms = s.comms := rfl
@[simp] theorem State.reloadStations_station (s : State) :
    (s.reloadStations).station = { s.station with records := remap s.station.records s.stationAtLoad } := rfl
@[simp] theorem State.reloadStations_prop (s : State) : (s.reloadStations).prop = s.prop := rfl
@[simp] theorem State.reloadStations_steer (s : State) : (s.reloadStations).steer = s.steer := rfl
@[simp] theorem State.reloadStations_coup (s : State) : (s.reloadStations).coup = s.coup := rfl
@[simp] theorem State.reloadStations_fuel (s : State) : (s.reloadStations).fuel = s.fuel := rfl
@[simp] theorem State.reloadStations_mgmt (s : State) : (s.reloadStations).mgmt = s.mgmt := rfl
@[simp] theorem State.reloadStations_params (s : State) : (s.reloadStations).params = s.params := rfl
@[simp] theorem State.reloadStations_straps (s : State) : (s.reloadStations).straps = s.straps := rfl
@[simp] theorem State.reloadStations_channel (s : State) : (s.reloadStations).channel = s.channel := rfl
@[simp] theorem State.reloadStations_restart (s : State) : (s.reloadStations).restart = s.restart := rfl
@[simp] theorem State.reloadStations_replyWait (s : State) : (s.reloadStations).replyWait = s.replyWait := rfl
@[simp] theorem State.reloadStations_pending (s : State) : (s.reloadStations).pending = s.pending := rfl

@[simp] theorem State.endLoad_comms (t : TableId) (st : TableState) (c : Cause) (s : State) : (s.endLoad t st c).comms = s.comms := rfl
@[simp] theorem State.endLoad_station (t : TableId) (st : TableState) (c : Cause) (s : State) : (s.endLoad t st c).station = s.station := rfl
@[simp] theorem State.endLoad_prop (t : TableId) (st : TableState) (c : Cause) (s : State) : (s.endLoad t st c).prop = s.prop := rfl
@[simp] theorem State.endLoad_steer (t : TableId) (st : TableState) (c : Cause) (s : State) : (s.endLoad t st c).steer = s.steer := rfl
@[simp] theorem State.endLoad_coup (t : TableId) (st : TableState) (c : Cause) (s : State) : (s.endLoad t st c).coup = s.coup := rfl
@[simp] theorem State.endLoad_fuel (t : TableId) (st : TableState) (c : Cause) (s : State) : (s.endLoad t st c).fuel = s.fuel := rfl
@[simp] theorem State.endLoad_params (t : TableId) (st : TableState) (c : Cause) (s : State) : (s.endLoad t st c).params = s.params := rfl
@[simp] theorem State.endLoad_straps (t : TableId) (st : TableState) (c : Cause) (s : State) : (s.endLoad t st c).straps = s.straps := rfl
@[simp] theorem State.endLoad_channel (t : TableId) (st : TableState) (c : Cause) (s : State) : (s.endLoad t st c).channel = s.channel := rfl
@[simp] theorem State.endLoad_restart (t : TableId) (st : TableState) (c : Cause) (s : State) : (s.endLoad t st c).restart = s.restart := rfl
@[simp] theorem State.endLoad_replyWait (t : TableId) (st : TableState) (c : Cause) (s : State) : (s.endLoad t st c).replyWait = s.replyWait := rfl
@[simp] theorem State.endLoad_pending (t : TableId) (st : TableState) (c : Cause) (s : State) : (s.endLoad t st c).pending = s.pending := rfl

@[simp] theorem State.bookEngine_comms (x : MeterEntry) (std : Nat) (s : State) : (s.bookEngine x std).comms = s.comms := rfl
@[simp] theorem State.bookEngine_station (x : MeterEntry) (std : Nat) (s : State) : (s.bookEngine x std).station = s.station := rfl
@[simp] theorem State.bookEngine_prop (x : MeterEntry) (std : Nat) (s : State) : (s.bookEngine x std).prop = s.prop := rfl
@[simp] theorem State.bookEngine_steer (x : MeterEntry) (std : Nat) (s : State) : (s.bookEngine x std).steer = s.steer := rfl
@[simp] theorem State.bookEngine_coup (x : MeterEntry) (std : Nat) (s : State) : (s.bookEngine x std).coup = s.coup := rfl
@[simp] theorem State.bookEngine_mgmt (x : MeterEntry) (std : Nat) (s : State) : (s.bookEngine x std).mgmt = s.mgmt := rfl
@[simp] theorem State.bookEngine_params (x : MeterEntry) (std : Nat) (s : State) : (s.bookEngine x std).params = s.params := rfl
@[simp] theorem State.bookEngine_straps (x : MeterEntry) (std : Nat) (s : State) : (s.bookEngine x std).straps = s.straps := rfl
@[simp] theorem State.bookEngine_channel (x : MeterEntry) (std : Nat) (s : State) : (s.bookEngine x std).channel = s.channel := rfl
@[simp] theorem State.bookEngine_restart (x : MeterEntry) (std : Nat) (s : State) : (s.bookEngine x std).restart = s.restart := rfl
@[simp] theorem State.bookEngine_replyWait (x : MeterEntry) (std : Nat) (s : State) : (s.bookEngine x std).replyWait = s.replyWait := rfl
@[simp] theorem State.bookEngine_pending (x : MeterEntry) (std : Nat) (s : State) : (s.bookEngine x std).pending = s.pending := rfl

@[simp] theorem State.bookUnassigned_comms (x : MeterEntry) (std : Nat) (s : State) : (s.bookUnassigned x std).comms = s.comms := rfl
@[simp] theorem State.bookUnassigned_station (x : MeterEntry) (std : Nat) (s : State) : (s.bookUnassigned x std).station = s.station := rfl
@[simp] theorem State.bookUnassigned_prop (x : MeterEntry) (std : Nat) (s : State) : (s.bookUnassigned x std).prop = s.prop := rfl
@[simp] theorem State.bookUnassigned_steer (x : MeterEntry) (std : Nat) (s : State) : (s.bookUnassigned x std).steer = s.steer := rfl
@[simp] theorem State.bookUnassigned_coup (x : MeterEntry) (std : Nat) (s : State) : (s.bookUnassigned x std).coup = s.coup := rfl
@[simp] theorem State.bookUnassigned_mgmt (x : MeterEntry) (std : Nat) (s : State) : (s.bookUnassigned x std).mgmt = s.mgmt := rfl
@[simp] theorem State.bookUnassigned_params (x : MeterEntry) (std : Nat) (s : State) : (s.bookUnassigned x std).params = s.params := rfl
@[simp] theorem State.bookUnassigned_straps (x : MeterEntry) (std : Nat) (s : State) : (s.bookUnassigned x std).straps = s.straps := rfl
@[simp] theorem State.bookUnassigned_channel (x : MeterEntry) (std : Nat) (s : State) : (s.bookUnassigned x std).channel = s.channel := rfl
@[simp] theorem State.bookUnassigned_restart (x : MeterEntry) (std : Nat) (s : State) : (s.bookUnassigned x std).restart = s.restart := rfl
@[simp] theorem State.bookUnassigned_replyWait (x : MeterEntry) (std : Nat) (s : State) : (s.bookUnassigned x std).replyWait = s.replyWait := rfl
@[simp] theorem State.bookUnassigned_pending (x : MeterEntry) (std : Nat) (s : State) : (s.bookUnassigned x std).pending = s.pending := rfl

@[simp] theorem State.raiseAges_comms (s : State) : (s.raiseAges).comms = s.comms := by unfold State.raiseAges; rfl
@[simp] theorem State.raiseAges_station (s : State) : (s.raiseAges).station = s.station := by unfold State.raiseAges; rfl
@[simp] theorem State.raiseAges_prop (s : State) : (s.raiseAges).prop = s.prop := by unfold State.raiseAges; rfl
@[simp] theorem State.raiseAges_steer (s : State) : (s.raiseAges).steer = s.steer := by unfold State.raiseAges; rfl
@[simp] theorem State.raiseAges_fuel (s : State) : (s.raiseAges).fuel = s.fuel := by unfold State.raiseAges; rfl
@[simp] theorem State.raiseAges_mgmt (s : State) : (s.raiseAges).mgmt = s.mgmt := by unfold State.raiseAges; rfl
@[simp] theorem State.raiseAges_params (s : State) : (s.raiseAges).params = s.params := by unfold State.raiseAges; rfl
@[simp] theorem State.raiseAges_straps (s : State) : (s.raiseAges).straps = s.straps := by unfold State.raiseAges; rfl
@[simp] theorem State.raiseAges_channel (s : State) : (s.raiseAges).channel = s.channel := by unfold State.raiseAges; rfl
@[simp] theorem State.raiseAges_restart (s : State) : (s.raiseAges).restart = s.restart := by unfold State.raiseAges; rfl
@[simp] theorem State.raiseAges_replyWait (s : State) : (s.raiseAges).replyWait = s.replyWait := by unfold State.raiseAges; rfl
@[simp] theorem State.raiseAges_pending (s : State) : (s.raiseAges).pending = s.pending := by unfold State.raiseAges; rfl

@[simp] theorem State.enterRestart_comms (k : RestartKind) (s : State) : (s.enterRestart k).comms = s.comms := rfl
@[simp] theorem State.enterRestart_station (k : RestartKind) (s : State) : (s.enterRestart k).station = s.station := rfl
@[simp] theorem State.enterRestart_prop (k : RestartKind) (s : State) : (s.enterRestart k).prop = s.prop := rfl
@[simp] theorem State.enterRestart_steer (k : RestartKind) (s : State) : (s.enterRestart k).steer = s.steer := rfl
@[simp] theorem State.enterRestart_coup (k : RestartKind) (s : State) : (s.enterRestart k).coup = s.coup := rfl
@[simp] theorem State.enterRestart_fuel (k : RestartKind) (s : State) : (s.enterRestart k).fuel = s.fuel := rfl
@[simp] theorem State.enterRestart_mgmt (k : RestartKind) (s : State) : (s.enterRestart k).mgmt = s.mgmt := rfl
@[simp] theorem State.enterRestart_params (k : RestartKind) (s : State) : (s.enterRestart k).params = s.params := rfl
@[simp] theorem State.enterRestart_straps (k : RestartKind) (s : State) : (s.enterRestart k).straps = s.straps := rfl
@[simp] theorem State.enterRestart_channel (k : RestartKind) (s : State) : (s.enterRestart k).channel = s.channel := rfl
@[simp] theorem State.enterRestart_restart (k : RestartKind) (s : State) :
    (s.enterRestart k).restart = some k := rfl
@[simp] theorem State.enterRestart_replyWait (k : RestartKind) (s : State) :
    (s.enterRestart k).replyWait = none := rfl
@[simp] theorem State.enterRestart_pending (k : RestartKind) (s : State) : (s.enterRestart k).pending = s.pending := rfl

end Sys2Proof.Machine
end

