-- ==== Sys2Proof/Laws/Frames.lean ====
section
/-! SUPPORT. What each shared operation leaves alone: for every operation and every field of State that it does not
write, one lemma that the field is unchanged. -/

namespace Sys2Proof.Machine

/-- A fold whose every step keeps what `g` reads keeps it. -/
theorem foldl_field {σ α β : Type} (g : σ → β) {f : σ → α → σ} (h : ∀ s x, g (f s x) = g s) (l : List α) (s : σ) :
    g (l.foldl f s) = g s := by
  induction l generalizing s with
  | nil => rfl
  | cons x xs ih => rw [List.foldl_cons, ih, h]

/-! ### Steering and derate -/

@[simp] theorem State.gateActuator_station (j : Fin 8) (s : State) : (s.gateActuator j).station = s.station := by
  unfold State.gateActuator; (repeat' split) <;> simp
@[simp] theorem State.gateActuator_prop (j : Fin 8) (s : State) : (s.gateActuator j).prop = s.prop := by
  unfold State.gateActuator; (repeat' split) <;> simp
@[simp] theorem State.gateActuator_coup (j : Fin 8) (s : State) : (s.gateActuator j).coup = s.coup := by
  unfold State.gateActuator; (repeat' split) <;> simp
@[simp] theorem State.gateActuator_fuel (j : Fin 8) (s : State) : (s.gateActuator j).fuel = s.fuel := by
  unfold State.gateActuator; (repeat' split) <;> simp
@[simp] theorem State.gateActuator_mgmt (j : Fin 8) (s : State) : (s.gateActuator j).mgmt = s.mgmt := by
  unfold State.gateActuator; (repeat' split) <;> simp
@[simp] theorem State.gateActuator_params (j : Fin 8) (s : State) : (s.gateActuator j).params = s.params := by
  unfold State.gateActuator; (repeat' split) <;> simp
@[simp] theorem State.gateActuator_straps (j : Fin 8) (s : State) : (s.gateActuator j).straps = s.straps := by
  unfold State.gateActuator; (repeat' split) <;> simp
@[simp] theorem State.gateActuator_channel (j : Fin 8) (s : State) : (s.gateActuator j).channel = s.channel := by
  unfold State.gateActuator; (repeat' split) <;> simp
@[simp] theorem State.gateActuator_restart (j : Fin 8) (s : State) : (s.gateActuator j).restart = s.restart := by
  unfold State.gateActuator; (repeat' split) <;> simp
@[simp] theorem State.gateActuator_replyWait (j : Fin 8) (s : State) : (s.gateActuator j).replyWait = s.replyWait := by
  unfold State.gateActuator; (repeat' split) <;> simp
@[simp] theorem State.gateActuator_pending (j : Fin 8) (s : State) : (s.gateActuator j).pending = s.pending := by
  unfold State.gateActuator; (repeat' split) <;> simp

@[simp] theorem State.tellSteering_station (s : State) : (s.tellSteering).station = s.station := by
  exact foldl_field (State.station) (fun s j => State.gateActuator_station j s) _ s
@[simp] theorem State.tellSteering_prop (s : State) : (s.tellSteering).prop = s.prop := by
  exact foldl_field (State.prop) (fun s j => State.gateActuator_prop j s) _ s
@[simp] theorem State.tellSteering_coup (s : State) : (s.tellSteering).coup = s.coup := by
  exact foldl_field (State.coup) (fun s j => State.gateActuator_coup j s) _ s
@[simp] theorem State.tellSteering_fuel (s : State) : (s.tellSteering).fuel = s.fuel := by
  exact foldl_field (State.fuel) (fun s j => State.gateActuator_fuel j s) _ s
@[simp] theorem State.tellSteering_mgmt (s : State) : (s.tellSteering).mgmt = s.mgmt := by
  exact foldl_field (State.mgmt) (fun s j => State.gateActuator_mgmt j s) _ s
@[simp] theorem State.tellSteering_params (s : State) : (s.tellSteering).params = s.params := by
  exact foldl_field (State.params) (fun s j => State.gateActuator_params j s) _ s
@[simp] theorem State.tellSteering_straps (s : State) : (s.tellSteering).straps = s.straps := by
  exact foldl_field (State.straps) (fun s j => State.gateActuator_straps j s) _ s
@[simp] theorem State.tellSteering_channel (s : State) : (s.tellSteering).channel = s.channel := by
  exact foldl_field (State.channel) (fun s j => State.gateActuator_channel j s) _ s
@[simp] theorem State.tellSteering_restart (s : State) : (s.tellSteering).restart = s.restart := by
  exact foldl_field (State.restart) (fun s j => State.gateActuator_restart j s) _ s
@[simp] theorem State.tellSteering_replyWait (s : State) : (s.tellSteering).replyWait = s.replyWait := by
  exact foldl_field (State.replyWait) (fun s j => State.gateActuator_replyWait j s) _ s
@[simp] theorem State.tellSteering_pending (s : State) : (s.tellSteering).pending = s.pending := by
  exact foldl_field (State.pending) (fun s j => State.gateActuator_pending j s) _ s

@[simp] theorem State.applyDerate_station (s : State) : (s.applyDerate).station = s.station := by
  unfold State.applyDerate; (repeat' split) <;> simp
@[simp] theorem State.applyDerate_prop (s : State) : (s.applyDerate).prop = s.prop := by
  unfold State.applyDerate; (repeat' split) <;> simp
@[simp] theorem State.applyDerate_steer (s : State) : (s.applyDerate).steer = s.steer := by
  unfold State.applyDerate; (repeat' split) <;> simp
@[simp] theorem State.applyDerate_fuel (s : State) : (s.applyDerate).fuel = s.fuel := by
  unfold State.applyDerate; (repeat' split) <;> simp
@[simp] theorem State.applyDerate_mgmt (s : State) : (s.applyDerate).mgmt = s.mgmt := by
  unfold State.applyDerate; (repeat' split) <;> simp
@[simp] theorem State.applyDerate_params (s : State) : (s.applyDerate).params = s.params := by
  unfold State.applyDerate; (repeat' split) <;> simp
@[simp] theorem State.applyDerate_straps (s : State) : (s.applyDerate).straps = s.straps := by
  unfold State.applyDerate; (repeat' split) <;> simp
@[simp] theorem State.applyDerate_channel (s : State) : (s.applyDerate).channel = s.channel := by
  unfold State.applyDerate; (repeat' split) <;> simp
@[simp] theorem State.applyDerate_restart (s : State) : (s.applyDerate).restart = s.restart := by
  unfold State.applyDerate; (repeat' split) <;> simp
@[simp] theorem State.applyDerate_replyWait (s : State) : (s.applyDerate).replyWait = s.replyWait := by
  unfold State.applyDerate; (repeat' split) <;> simp
@[simp] theorem State.applyDerate_pending (s : State) : (s.applyDerate).pending = s.pending := by
  unfold State.applyDerate; (repeat' split) <;> simp

@[simp] theorem State.afterChange_station (s : State) : (s.afterChange).station = s.station := by
  simp [State.afterChange]
@[simp] theorem State.afterChange_prop (s : State) : (s.afterChange).prop = s.prop := by
  simp [State.afterChange]
@[simp] theorem State.afterChange_fuel (s : State) : (s.afterChange).fuel = s.fuel := by
  simp [State.afterChange]
@[simp] theorem State.afterChange_mgmt (s : State) : (s.afterChange).mgmt = s.mgmt := by
  simp [State.afterChange]
@[simp] theorem State.afterChange_params (s : State) : (s.afterChange).params = s.params := by
  simp [State.afterChange]
@[simp] theorem State.afterChange_straps (s : State) : (s.afterChange).straps = s.straps := by
  simp [State.afterChange]
@[simp] theorem State.afterChange_channel (s : State) : (s.afterChange).channel = s.channel := by
  simp [State.afterChange]
@[simp] theorem State.afterChange_restart (s : State) : (s.afterChange).restart = s.restart := by
  simp [State.afterChange]
@[simp] theorem State.afterChange_replyWait (s : State) : (s.afterChange).replyWait = s.replyWait := by
  simp [State.afterChange]
@[simp] theorem State.afterChange_pending (s : State) : (s.afterChange).pending = s.pending := by
  simp [State.afterChange]

@[simp] theorem State.classified_station (i : Fin 48) (r : CouplingRecord) (s : State) : (s.classified i r).station = s.station := by
  unfold State.classified; dsimp only; split <;> simp
@[simp] theorem State.classified_prop (i : Fin 48) (r : CouplingRecord) (s : State) : (s.classified i r).prop = s.prop := by
  unfold State.classified; dsimp only; split <;> simp
@[simp] theorem State.classified_steer (i : Fin 48) (r : CouplingRecord) (s : State) : (s.classified i r).steer = s.steer := by
  unfold State.classified; dsimp only; split <;> simp
@[simp] theorem State.classified_fuel (i : Fin 48) (r : CouplingRecord) (s : State) : (s.classified i r).fuel = s.fuel := by
  unfold State.classified; dsimp only; split <;> simp
@[simp] theorem State.classified_mgmt (i : Fin 48) (r : CouplingRecord) (s : State) : (s.classified i r).mgmt = s.mgmt := by
  unfold State.classified; dsimp only; split <;> simp
@[simp] theorem State.classified_params (i : Fin 48) (r : CouplingRecord) (s : State) : (s.classified i r).params = s.params := by
  unfold State.classified; dsimp only; split <;> simp
@[simp] theorem State.classified_straps (i : Fin 48) (r : CouplingRecord) (s : State) : (s.classified i r).straps = s.straps := by
  unfold State.classified; dsimp only; split <;> simp
@[simp] theorem State.classified_channel (i : Fin 48) (r : CouplingRecord) (s : State) : (s.classified i r).channel = s.channel := by
  unfold State.classified; dsimp only; split <;> simp
@[simp] theorem State.classified_restart (i : Fin 48) (r : CouplingRecord) (s : State) : (s.classified i r).restart = s.restart := by
  unfold State.classified; dsimp only; split <;> simp
@[simp] theorem State.classified_replyWait (i : Fin 48) (r : CouplingRecord) (s : State) : (s.classified i r).replyWait = s.replyWait := by
  unfold State.classified; dsimp only; split <;> simp
@[simp] theorem State.classified_pending (i : Fin 48) (r : CouplingRecord) (s : State) : (s.classified i r).pending = s.pending := by
  unfold State.classified; dsimp only; split <;> simp

@[simp] theorem State.parted_station (i : Fin 48) (r : CouplingRecord) (s : State) : (s.parted i r).station = s.station := by
  simp [State.parted]
@[simp] theorem State.parted_prop (i : Fin 48) (r : CouplingRecord) (s : State) : (s.parted i r).prop = s.prop := by
  simp [State.parted]
@[simp] theorem State.parted_steer (i : Fin 48) (r : CouplingRecord) (s : State) : (s.parted i r).steer = s.steer := by
  simp [State.parted]
@[simp] theorem State.parted_fuel (i : Fin 48) (r : CouplingRecord) (s : State) : (s.parted i r).fuel = s.fuel := by
  simp [State.parted]
@[simp] theorem State.parted_mgmt (i : Fin 48) (r : CouplingRecord) (s : State) : (s.parted i r).mgmt = s.mgmt := by
  simp [State.parted]
@[simp] theorem State.parted_params (i : Fin 48) (r : CouplingRecord) (s : State) : (s.parted i r).params = s.params := by
  simp [State.parted]
@[simp] theorem State.parted_straps (i : Fin 48) (r : CouplingRecord) (s : State) : (s.parted i r).straps = s.straps := by
  simp [State.parted]
@[simp] theorem State.parted_channel (i : Fin 48) (r : CouplingRecord) (s : State) : (s.parted i r).channel = s.channel := by
  simp [State.parted]
@[simp] theorem State.parted_restart (i : Fin 48) (r : CouplingRecord) (s : State) : (s.parted i r).restart = s.restart := by
  simp [State.parted]
@[simp] theorem State.parted_replyWait (i : Fin 48) (r : CouplingRecord) (s : State) : (s.parted i r).replyWait = s.replyWait := by
  simp [State.parted]
@[simp] theorem State.parted_pending (i : Fin 48) (r : CouplingRecord) (s : State) : (s.parted i r).pending = s.pending := by
  simp [State.parted]

@[simp] theorem State.classifyLast_station (i : Fin 48) (s : State) : (s.classifyLast i).station = s.station := by
  unfold State.classifyLast; (repeat' split) <;> simp
@[simp] theorem State.classifyLast_prop (i : Fin 48) (s : State) : (s.classifyLast i).prop = s.prop := by
  unfold State.classifyLast; (repeat' split) <;> simp
@[simp] theorem State.classifyLast_steer (i : Fin 48) (s : State) : (s.classifyLast i).steer = s.steer := by
  unfold State.classifyLast; (repeat' split) <;> simp
@[simp] theorem State.classifyLast_fuel (i : Fin 48) (s : State) : (s.classifyLast i).fuel = s.fuel := by
  unfold State.classifyLast; (repeat' split) <;> simp
@[simp] theorem State.classifyLast_mgmt (i : Fin 48) (s : State) : (s.classifyLast i).mgmt = s.mgmt := by
  unfold State.classifyLast; (repeat' split) <;> simp
@[simp] theorem State.classifyLast_params (i : Fin 48) (s : State) : (s.classifyLast i).params = s.params := by
  unfold State.classifyLast; (repeat' split) <;> simp
@[simp] theorem State.classifyLast_straps (i : Fin 48) (s : State) : (s.classifyLast i).straps = s.straps := by
  unfold State.classifyLast; (repeat' split) <;> simp
@[simp] theorem State.classifyLast_channel (i : Fin 48) (s : State) : (s.classifyLast i).channel = s.channel := by
  unfold State.classifyLast; (repeat' split) <;> simp
@[simp] theorem State.classifyLast_restart (i : Fin 48) (s : State) : (s.classifyLast i).restart = s.restart := by
  unfold State.classifyLast; (repeat' split) <;> simp
@[simp] theorem State.classifyLast_replyWait (i : Fin 48) (s : State) : (s.classifyLast i).replyWait = s.replyWait := by
  unfold State.classifyLast; (repeat' split) <;> simp
@[simp] theorem State.classifyLast_pending (i : Fin 48) (s : State) : (s.classifyLast i).pending = s.pending := by
  unfold State.classifyLast; (repeat' split) <;> simp

@[simp] theorem State.abortRelease_station (i : Fin 48) (s : State) : (s.abortRelease i).station = s.station := by
  simp [State.abortRelease]
@[simp] theorem State.abortRelease_prop (i : Fin 48) (s : State) : (s.abortRelease i).prop = s.prop := by
  simp [State.abortRelease]
@[simp] theorem State.abortRelease_fuel (i : Fin 48) (s : State) : (s.abortRelease i).fuel = s.fuel := by
  simp [State.abortRelease]
@[simp] theorem State.abortRelease_mgmt (i : Fin 48) (s : State) : (s.abortRelease i).mgmt = s.mgmt := by
  simp [State.abortRelease]
@[simp] theorem State.abortRelease_params (i : Fin 48) (s : State) : (s.abortRelease i).params = s.params := by
  simp [State.abortRelease]
@[simp] theorem State.abortRelease_straps (i : Fin 48) (s : State) : (s.abortRelease i).straps = s.straps := by
  simp [State.abortRelease]
@[simp] theorem State.abortRelease_channel (i : Fin 48) (s : State) : (s.abortRelease i).channel = s.channel := by
  simp [State.abortRelease]
@[simp] theorem State.abortRelease_restart (i : Fin 48) (s : State) : (s.abortRelease i).restart = s.restart := by
  simp [State.abortRelease]
@[simp] theorem State.abortRelease_replyWait (i : Fin 48) (s : State) : (s.abortRelease i).replyWait = s.replyWait := by
  simp [State.abortRelease]
@[simp] theorem State.abortRelease_pending (i : Fin 48) (s : State) : (s.abortRelease i).pending = s.pending := by
  simp [State.abortRelease]

@[simp] theorem State.checkLock_station (c : Interlock) (s : State) : (s.checkLock c).station = s.station := by
  unfold State.checkLock; (repeat' split) <;> simp
@[simp] theorem State.checkLock_prop (c : Interlock) (s : State) : (s.checkLock c).prop = s.prop := by
  unfold State.checkLock; (repeat' split) <;> simp
@[simp] theorem State.checkLock_fuel (c : Interlock) (s : State) : (s.checkLock c).fuel = s.fuel := by
  unfold State.checkLock; (repeat' split) <;> simp
@[simp] theorem State.checkLock_mgmt (c : Interlock) (s : State) : (s.checkLock c).mgmt = s.mgmt := by
  unfold State.checkLock; (repeat' split) <;> simp
@[simp] theorem State.checkLock_params (c : Interlock) (s : State) : (s.checkLock c).params = s.params := by
  unfold State.checkLock; (repeat' split) <;> simp
@[simp] theorem State.checkLock_straps (c : Interlock) (s : State) : (s.checkLock c).straps = s.straps := by
  unfold State.checkLock; (repeat' split) <;> simp
@[simp] theorem State.checkLock_channel (c : Interlock) (s : State) : (s.checkLock c).channel = s.channel := by
  unfold State.checkLock; (repeat' split) <;> simp
@[simp] theorem State.checkLock_restart (c : Interlock) (s : State) : (s.checkLock c).restart = s.restart := by
  unfold State.checkLock; (repeat' split) <;> simp
@[simp] theorem State.checkLock_replyWait (c : Interlock) (s : State) : (s.checkLock c).replyWait = s.replyWait := by
  unfold State.checkLock; (repeat' split) <;> simp
@[simp] theorem State.checkLock_pending (c : Interlock) (s : State) : (s.checkLock c).pending = s.pending := by
  unfold State.checkLock; (repeat' split) <;> simp

/-! ### Propulsion -/

@[simp] theorem State.onChannel_comms (e : Fin 4) (f : EngineChannel → EngineChannel) (s : State) : (s.onChannel e f).comms = s.comms := by
  unfold State.onChannel; (repeat' split) <;> simp
@[simp] theorem State.onChannel_station (e : Fin 4) (f : EngineChannel → EngineChannel) (s : State) : (s.onChannel e f).station = s.station := by
  unfold State.onChannel; (repeat' split) <;> simp
@[simp] theorem State.onChannel_steer (e : Fin 4) (f : EngineChannel → EngineChannel) (s : State) : (s.onChannel e f).steer = s.steer := by
  unfold State.onChannel; (repeat' split) <;> simp
@[simp] theorem State.onChannel_coup (e : Fin 4) (f : EngineChannel → EngineChannel) (s : State) : (s.onChannel e f).coup = s.coup := by
  unfold State.onChannel; (repeat' split) <;> simp
@[simp] theorem State.onChannel_fuel (e : Fin 4) (f : EngineChannel → EngineChannel) (s : State) : (s.onChannel e f).fuel = s.fuel := by
  unfold State.onChannel; (repeat' split) <;> simp
@[simp] theorem State.onChannel_mgmt (e : Fin 4) (f : EngineChannel → EngineChannel) (s : State) : (s.onChannel e f).mgmt = s.mgmt := by
  unfold State.onChannel; (repeat' split) <;> simp
@[simp] theorem State.onChannel_params (e : Fin 4) (f : EngineChannel → EngineChannel) (s : State) : (s.onChannel e f).params = s.params := by
  unfold State.onChannel; (repeat' split) <;> simp
@[simp] theorem State.onChannel_straps (e : Fin 4) (f : EngineChannel → EngineChannel) (s : State) : (s.onChannel e f).straps = s.straps := by
  unfold State.onChannel; (repeat' split) <;> simp
@[simp] theorem State.onChannel_channel (e : Fin 4) (f : EngineChannel → EngineChannel) (s : State) : (s.onChannel e f).channel = s.channel := by
  unfold State.onChannel; (repeat' split) <;> simp
@[simp] theorem State.onChannel_restart (e : Fin 4) (f : EngineChannel → EngineChannel) (s : State) : (s.onChannel e f).restart = s.restart := by
  unfold State.onChannel; (repeat' split) <;> simp
@[simp] theorem State.onChannel_replyWait (e : Fin 4) (f : EngineChannel → EngineChannel) (s : State) : (s.onChannel e f).replyWait = s.replyWait := by
  unfold State.onChannel; (repeat' split) <;> simp
@[simp] theorem State.onChannel_pending (e : Fin 4) (f : EngineChannel → EngineChannel) (s : State) : (s.onChannel e f).pending = s.pending := by
  unfold State.onChannel; (repeat' split) <;> simp

@[simp] theorem State.leverAccepted_comms (e : Fin 4) (s : State) : (s.leverAccepted e).comms = s.comms := by
  simp [State.leverAccepted]
@[simp] theorem State.leverAccepted_station (e : Fin 4) (s : State) : (s.leverAccepted e).station = s.station := by
  simp [State.leverAccepted]
@[simp] theorem State.leverAccepted_steer (e : Fin 4) (s : State) : (s.leverAccepted e).steer = s.steer := by
  simp [State.leverAccepted]
@[simp] theorem State.leverAccepted_coup (e : Fin 4) (s : State) : (s.leverAccepted e).coup = s.coup := by
  simp [State.leverAccepted]
@[simp] theorem State.leverAccepted_fuel (e : Fin 4) (s : State) : (s.leverAccepted e).fuel = s.fuel := by
  simp [State.leverAccepted]
@[simp] theorem State.leverAccepted_mgmt (e : Fin 4) (s : State) : (s.leverAccepted e).mgmt = s.mgmt := by
  simp [State.leverAccepted]
@[simp] theorem State.leverAccepted_params (e : Fin 4) (s : State) : (s.leverAccepted e).params = s.params := by
  simp [State.leverAccepted]
@[simp] theorem State.leverAccepted_straps (e : Fin 4) (s : State) : (s.leverAccepted e).straps = s.straps := by
  simp [State.leverAccepted]
@[simp] theorem State.leverAccepted_channel (e : Fin 4) (s : State) : (s.leverAccepted e).channel = s.channel := by
  simp [State.leverAccepted]
@[simp] theorem State.leverAccepted_restart (e : Fin 4) (s : State) : (s.leverAccepted e).restart = s.restart := by
  simp [State.leverAccepted]
@[simp] theorem State.leverAccepted_replyWait (e : Fin 4) (s : State) : (s.leverAccepted e).replyWait = s.replyWait := by
  simp [State.leverAccepted]
@[simp] theorem State.leverAccepted_pending (e : Fin 4) (s : State) : (s.leverAccepted e).pending = s.pending := by
  simp [State.leverAccepted]

@[simp] theorem State.leversAccepted_comms (w : Fin 4 → Bool) (s : State) : (s.leversAccepted w).comms = s.comms := by
  exact foldl_field (State.comms) (fun s e => by split <;> simp) _ s
@[simp] theorem State.leversAccepted_station (w : Fin 4 → Bool) (s : State) : (s.leversAccepted w).station = s.station := by
  exact foldl_field (State.station) (fun s e => by split <;> simp) _ s
@[simp] theorem State.leversAccepted_steer (w : Fin 4 → Bool) (s : State) : (s.leversAccepted w).steer = s.steer := by
  exact foldl_field (State.steer) (fun s e => by split <;> simp) _ s
@[simp] theorem State.leversAccepted_coup (w : Fin 4 → Bool) (s : State) : (s.leversAccepted w).coup = s.coup := by
  exact foldl_field (State.coup) (fun s e => by split <;> simp) _ s
@[simp] theorem State.leversAccepted_fuel (w : Fin 4 → Bool) (s : State) : (s.leversAccepted w).fuel = s.fuel := by
  exact foldl_field (State.fuel) (fun s e => by split <;> simp) _ s
@[simp] theorem State.leversAccepted_mgmt (w : Fin 4 → Bool) (s : State) : (s.leversAccepted w).mgmt = s.mgmt := by
  exact foldl_field (State.mgmt) (fun s e => by split <;> simp) _ s
@[simp] theorem State.leversAccepted_params (w : Fin 4 → Bool) (s : State) : (s.leversAccepted w).params = s.params := by
  exact foldl_field (State.params) (fun s e => by split <;> simp) _ s
@[simp] theorem State.leversAccepted_straps (w : Fin 4 → Bool) (s : State) : (s.leversAccepted w).straps = s.straps := by
  exact foldl_field (State.straps) (fun s e => by split <;> simp) _ s
@[simp] theorem State.leversAccepted_channel (w : Fin 4 → Bool) (s : State) : (s.leversAccepted w).channel = s.channel := by
  exact foldl_field (State.channel) (fun s e => by split <;> simp) _ s
@[simp] theorem State.leversAccepted_restart (w : Fin 4 → Bool) (s : State) : (s.leversAccepted w).restart = s.restart := by
  exact foldl_field (State.restart) (fun s e => by split <;> simp) _ s
@[simp] theorem State.leversAccepted_replyWait (w : Fin 4 → Bool) (s : State) : (s.leversAccepted w).replyWait = s.replyWait := by
  exact foldl_field (State.replyWait) (fun s e => by split <;> simp) _ s
@[simp] theorem State.leversAccepted_pending (w : Fin 4 → Bool) (s : State) : (s.leversAccepted w).pending = s.pending := by
  exact foldl_field (State.pending) (fun s e => by split <;> simp) _ s

@[simp] theorem State.gearMoved_station (e : Fin 4) (was now : Gear) (s : State) : (s.gearMoved e was now).station = s.station := by
  unfold State.gearMoved; dsimp only; (repeat' split) <;> simp
@[simp] theorem State.gearMoved_prop (e : Fin 4) (was now : Gear) (s : State) : (s.gearMoved e was now).prop = s.prop := by
  unfold State.gearMoved; dsimp only; (repeat' split) <;> simp
@[simp] theorem State.gearMoved_fuel (e : Fin 4) (was now : Gear) (s : State) : (s.gearMoved e was now).fuel = s.fuel := by
  unfold State.gearMoved; dsimp only; (repeat' split) <;> simp
@[simp] theorem State.gearMoved_mgmt (e : Fin 4) (was now : Gear) (s : State) : (s.gearMoved e was now).mgmt = s.mgmt := by
  unfold State.gearMoved; dsimp only; (repeat' split) <;> simp
@[simp] theorem State.gearMoved_params (e : Fin 4) (was now : Gear) (s : State) : (s.gearMoved e was now).params = s.params := by
  unfold State.gearMoved; dsimp only; (repeat' split) <;> simp
@[simp] theorem State.gearMoved_straps (e : Fin 4) (was now : Gear) (s : State) : (s.gearMoved e was now).straps = s.straps := by
  unfold State.gearMoved; dsimp only; (repeat' split) <;> simp
@[simp] theorem State.gearMoved_channel (e : Fin 4) (was now : Gear) (s : State) : (s.gearMoved e was now).channel = s.channel := by
  unfold State.gearMoved; dsimp only; (repeat' split) <;> simp
@[simp] theorem State.gearMoved_restart (e : Fin 4) (was now : Gear) (s : State) : (s.gearMoved e was now).restart = s.restart := by
  unfold State.gearMoved; dsimp only; (repeat' split) <;> simp
@[simp] theorem State.gearMoved_replyWait (e : Fin 4) (was now : Gear) (s : State) : (s.gearMoved e was now).replyWait = s.replyWait := by
  unfold State.gearMoved; dsimp only; (repeat' split) <;> simp
@[simp] theorem State.gearMoved_pending (e : Fin 4) (was now : Gear) (s : State) : (s.gearMoved e was now).pending = s.pending := by
  unfold State.gearMoved; dsimp only; (repeat' split) <;> simp

@[simp] theorem State.setSync_comms (g : Nat) (x : Option Direction) (s : State) : (s.setSync g x).comms = s.comms := by
  unfold State.setSync; split <;> rfl
@[simp] theorem State.setSync_station (g : Nat) (x : Option Direction) (s : State) : (s.setSync g x).station = s.station := by
  unfold State.setSync; split <;> rfl
@[simp] theorem State.setSync_steer (g : Nat) (x : Option Direction) (s : State) : (s.setSync g x).steer = s.steer := by
  unfold State.setSync; split <;> rfl
@[simp] theorem State.setSync_coup (g : Nat) (x : Option Direction) (s : State) : (s.setSync g x).coup = s.coup := by
  unfold State.setSync; split <;> rfl
@[simp] theorem State.setSync_fuel (g : Nat) (x : Option Direction) (s : State) : (s.setSync g x).fuel = s.fuel := by
  unfold State.setSync; split <;> rfl
@[simp] theorem State.setSync_mgmt (g : Nat) (x : Option Direction) (s : State) : (s.setSync g x).mgmt = s.mgmt := by
  unfold State.setSync; split <;> rfl
@[simp] theorem State.setSync_params (g : Nat) (x : Option Direction) (s : State) : (s.setSync g x).params = s.params := by
  unfold State.setSync; split <;> rfl
@[simp] theorem State.setSync_straps (g : Nat) (x : Option Direction) (s : State) : (s.setSync g x).straps = s.straps := by
  unfold State.setSync; split <;> rfl
@[simp] theorem State.setSync_channel (g : Nat) (x : Option Direction) (s : State) : (s.setSync g x).channel = s.channel := by
  unfold State.setSync; split <;> rfl
@[simp] theorem State.setSync_restart (g : Nat) (x : Option Direction) (s : State) : (s.setSync g x).restart = s.restart := by
  unfold State.setSync; split <;> rfl
@[simp] theorem State.setSync_replyWait (g : Nat) (x : Option Direction) (s : State) : (s.setSync g x).replyWait = s.replyWait := by
  unfold State.setSync; split <;> rfl
@[simp] theorem State.setSync_pending (g : Nat) (x : Option Direction) (s : State) : (s.setSync g x).pending = s.pending := by
  unfold State.setSync; split <;> rfl

@[simp] theorem State.syncTest_comms (g : Nat) (s : State) : (s.syncTest g).comms = s.comms := by
  unfold State.syncTest; refine (foldl_field (State.comms) (fun t m => by simp) _ _).trans ?_; simp
@[simp] theorem State.syncTest_station (g : Nat) (s : State) : (s.syncTest g).station = s.station := by
  unfold State.syncTest; refine (foldl_field (State.station) (fun t m => by simp) _ _).trans ?_; simp
@[simp] theorem State.syncTest_steer (g : Nat) (s : State) : (s.syncTest g).steer = s.steer := by
  unfold State.syncTest; refine (foldl_field (State.steer) (fun t m => by simp) _ _).trans ?_; simp
@[simp] theorem State.syncTest_coup (g : Nat) (s : State) : (s.syncTest g).coup = s.coup := by
  unfold State.syncTest; refine (foldl_field (State.coup) (fun t m => by simp) _ _).trans ?_; simp
@[simp] theorem State.syncTest_fuel (g : Nat) (s : State) : (s.syncTest g).fuel = s.fuel := by
  unfold State.syncTest; refine (foldl_field (State.fuel) (fun t m => by simp) _ _).trans ?_; simp
@[simp] theorem State.syncTest_mgmt (g : Nat) (s : State) : (s.syncTest g).mgmt = s.mgmt := by
  unfold State.syncTest; refine (foldl_field (State.mgmt) (fun t m => by simp) _ _).trans ?_; simp
@[simp] theorem State.syncTest_params (g : Nat) (s : State) : (s.syncTest g).params = s.params := by
  unfold State.syncTest; refine (foldl_field (State.params) (fun t m => by simp) _ _).trans ?_; simp
@[simp] theorem State.syncTest_straps (g : Nat) (s : State) : (s.syncTest g).straps = s.straps := by
  unfold State.syncTest; refine (foldl_field (State.straps) (fun t m => by simp) _ _).trans ?_; simp
@[simp] theorem State.syncTest_channel (g : Nat) (s : State) : (s.syncTest g).channel = s.channel := by
  unfold State.syncTest; refine (foldl_field (State.channel) (fun t m => by simp) _ _).trans ?_; simp
@[simp] theorem State.syncTest_restart (g : Nat) (s : State) : (s.syncTest g).restart = s.restart := by
  unfold State.syncTest; refine (foldl_field (State.restart) (fun t m => by simp) _ _).trans ?_; simp
@[simp] theorem State.syncTest_replyWait (g : Nat) (s : State) : (s.syncTest g).replyWait = s.replyWait := by
  unfold State.syncTest; refine (foldl_field (State.replyWait) (fun t m => by simp) _ _).trans ?_; simp
@[simp] theorem State.syncTest_pending (g : Nat) (s : State) : (s.syncTest g).pending = s.pending := by
  unfold State.syncTest; refine (foldl_field (State.pending) (fun t m => by simp) _ _).trans ?_; simp

@[simp] theorem State.trimStep_comms (e : Fin 4) (s : State) : (s.trimStep e).comms = s.comms := by
  unfold State.trimStep; dsimp only; (repeat' split) <;> simp
@[simp] theorem State.trimStep_station (e : Fin 4) (s : State) : (s.trimStep e).station = s.station := by
  unfold State.trimStep; dsimp only; (repeat' split) <;> simp
@[simp] theorem State.trimStep_steer (e : Fin 4) (s : State) : (s.trimStep e).steer = s.steer := by
  unfold State.trimStep; dsimp only; (repeat' split) <;> simp
@[simp] theorem State.trimStep_coup (e : Fin 4) (s : State) : (s.trimStep e).coup = s.coup := by
  unfold State.trimStep; dsimp only; (repeat' split) <;> simp
@[simp] theorem State.trimStep_fuel (e : Fin 4) (s : State) : (s.trimStep e).fuel = s.fuel := by
  unfold State.trimStep; dsimp only; (repeat' split) <;> simp
@[simp] theorem State.trimStep_mgmt (e : Fin 4) (s : State) : (s.trimStep e).mgmt = s.mgmt := by
  unfold State.trimStep; dsimp only; (repeat' split) <;> simp
@[simp] theorem State.trimStep_params (e : Fin 4) (s : State) : (s.trimStep e).params = s.params := by
  unfold State.trimStep; dsimp only; (repeat' split) <;> simp
@[simp] theorem State.trimStep_straps (e : Fin 4) (s : State) : (s.trimStep e).straps = s.straps := by
  unfold State.trimStep; dsimp only; (repeat' split) <;> simp
@[simp] theorem State.trimStep_channel (e : Fin 4) (s : State) : (s.trimStep e).channel = s.channel := by
  unfold State.trimStep; dsimp only; (repeat' split) <;> simp
@[simp] theorem State.trimStep_restart (e : Fin 4) (s : State) : (s.trimStep e).restart = s.restart := by
  unfold State.trimStep; dsimp only; (repeat' split) <;> simp
@[simp] theorem State.trimStep_replyWait (e : Fin 4) (s : State) : (s.trimStep e).replyWait = s.replyWait := by
  unfold State.trimStep; dsimp only; (repeat' split) <;> simp
@[simp] theorem State.trimStep_pending (e : Fin 4) (s : State) : (s.trimStep e).pending = s.pending := by
  unfold State.trimStep; dsimp only; (repeat' split) <;> simp

/-! ### Fuel -/

@[simp] theorem State.evaluated_station (t : Fin 8) (r : TankRecord) (s : State) : (s.evaluated t r).station = s.station := by
  unfold State.evaluated; dsimp only; split <;> simp
@[simp] theorem State.evaluated_prop (t : Fin 8) (r : TankRecord) (s : State) : (s.evaluated t r).prop = s.prop := by
  unfold State.evaluated; dsimp only; split <;> simp
@[simp] theorem State.evaluated_steer (t : Fin 8) (r : TankRecord) (s : State) : (s.evaluated t r).steer = s.steer := by
  unfold State.evaluated; dsimp only; split <;> simp
@[simp] theorem State.evaluated_coup (t : Fin 8) (r : TankRecord) (s : State) : (s.evaluated t r).coup = s.coup := by
  unfold State.evaluated; dsimp only; split <;> simp
@[simp] theorem State.evaluated_mgmt (t : Fin 8) (r : TankRecord) (s : State) : (s.evaluated t r).mgmt = s.mgmt := by
  unfold State.evaluated; dsimp only; split <;> simp
@[simp] theorem State.evaluated_params (t : Fin 8) (r : TankRecord) (s : State) : (s.evaluated t r).params = s.params := by
  unfold State.evaluated; dsimp only; split <;> simp
@[simp] theorem State.evaluated_straps (t : Fin 8) (r : TankRecord) (s : State) : (s.evaluated t r).straps = s.straps := by
  unfold State.evaluated; dsimp only; split <;> simp
@[simp] theorem State.evaluated_channel (t : Fin 8) (r : TankRecord) (s : State) : (s.evaluated t r).channel = s.channel := by
  unfold State.evaluated; dsimp only; split <;> simp
@[simp] theorem State.evaluated_restart (t : Fin 8) (r : TankRecord) (s : State) : (s.evaluated t r).restart = s.restart := by
  unfold State.evaluated; dsimp only; split <;> simp
@[simp] theorem State.evaluated_replyWait (t : Fin 8) (r : TankRecord) (s : State) : (s.evaluated t r).replyWait = s.replyWait := by
  unfold State.evaluated; dsimp only; split <;> simp
@[simp] theorem State.evaluated_pending (t : Fin 8) (r : TankRecord) (s : State) : (s.evaluated t r).pending = s.pending := by
  unfold State.evaluated; dsimp only; split <;> simp

@[simp] theorem State.debitTank_station (t : Fin 8) (d : Nat) (s : State) : (s.debitTank t d).station = s.station := by
  unfold State.debitTank; (repeat' split) <;> simp
@[simp] theorem State.debitTank_prop (t : Fin 8) (d : Nat) (s : State) : (s.debitTank t d).prop = s.prop := by
  unfold State.debitTank; (repeat' split) <;> simp
@[simp] theorem State.debitTank_steer (t : Fin 8) (d : Nat) (s : State) : (s.debitTank t d).steer = s.steer := by
  unfold State.debitTank; (repeat' split) <;> simp
@[simp] theorem State.debitTank_coup (t : Fin 8) (d : Nat) (s : State) : (s.debitTank t d).coup = s.coup := by
  unfold State.debitTank; (repeat' split) <;> simp
@[simp] theorem State.debitTank_mgmt (t : Fin 8) (d : Nat) (s : State) : (s.debitTank t d).mgmt = s.mgmt := by
  unfold State.debitTank; (repeat' split) <;> simp
@[simp] theorem State.debitTank_params (t : Fin 8) (d : Nat) (s : State) : (s.debitTank t d).params = s.params := by
  unfold State.debitTank; (repeat' split) <;> simp
@[simp] theorem State.debitTank_straps (t : Fin 8) (d : Nat) (s : State) : (s.debitTank t d).straps = s.straps := by
  unfold State.debitTank; (repeat' split) <;> simp
@[simp] theorem State.debitTank_channel (t : Fin 8) (d : Nat) (s : State) : (s.debitTank t d).channel = s.channel := by
  unfold State.debitTank; (repeat' split) <;> simp
@[simp] theorem State.debitTank_restart (t : Fin 8) (d : Nat) (s : State) : (s.debitTank t d).restart = s.restart := by
  unfold State.debitTank; (repeat' split) <;> simp
@[simp] theorem State.debitTank_replyWait (t : Fin 8) (d : Nat) (s : State) : (s.debitTank t d).replyWait = s.replyWait := by
  unfold State.debitTank; (repeat' split) <;> simp
@[simp] theorem State.debitTank_pending (t : Fin 8) (d : Nat) (s : State) : (s.debitTank t d).pending = s.pending := by
  unfold State.debitTank; (repeat' split) <;> simp

@[simp] theorem State.creditTank_station (t : Fin 8) (c : Nat) (s : State) : (s.creditTank t c).station = s.station := by
  unfold State.creditTank; (repeat' split) <;> simp
@[simp] theorem State.creditTank_prop (t : Fin 8) (c : Nat) (s : State) : (s.creditTank t c).prop = s.prop := by
  unfold State.creditTank; (repeat' split) <;> simp
@[simp] theorem State.creditTank_steer (t : Fin 8) (c : Nat) (s : State) : (s.creditTank t c).steer = s.steer := by
  unfold State.creditTank; (repeat' split) <;> simp
@[simp] theorem State.creditTank_coup (t : Fin 8) (c : Nat) (s : State) : (s.creditTank t c).coup = s.coup := by
  unfold State.creditTank; (repeat' split) <;> simp
@[simp] theorem State.creditTank_mgmt (t : Fin 8) (c : Nat) (s : State) : (s.creditTank t c).mgmt = s.mgmt := by
  unfold State.creditTank; (repeat' split) <;> simp
@[simp] theorem State.creditTank_params (t : Fin 8) (c : Nat) (s : State) : (s.creditTank t c).params = s.params := by
  unfold State.creditTank; (repeat' split) <;> simp
@[simp] theorem State.creditTank_straps (t : Fin 8) (c : Nat) (s : State) : (s.creditTank t c).straps = s.straps := by
  unfold State.creditTank; (repeat' split) <;> simp
@[simp] theorem State.creditTank_channel (t : Fin 8) (c : Nat) (s : State) : (s.creditTank t c).channel = s.channel := by
  unfold State.creditTank; (repeat' split) <;> simp
@[simp] theorem State.creditTank_restart (t : Fin 8) (c : Nat) (s : State) : (s.creditTank t c).restart = s.restart := by
  unfold State.creditTank; (repeat' split) <;> simp
@[simp] theorem State.creditTank_replyWait (t : Fin 8) (c : Nat) (s : State) : (s.creditTank t c).replyWait = s.replyWait := by
  unfold State.creditTank; (repeat' split) <;> simp
@[simp] theorem State.creditTank_pending (t : Fin 8) (c : Nat) (s : State) : (s.creditTank t c).pending = s.pending := by
  unfold State.creditTank; (repeat' split) <;> simp

@[simp] theorem State.bookStore_station (x : MeterEntry) (std : Nat) (s : State) : (s.bookStore x std).station = s.station := by
  unfold State.bookStore; (repeat' split) <;> simp
@[simp] theorem State.bookStore_prop (x : MeterEntry) (std : Nat) (s : State) : (s.bookStore x std).prop = s.prop := by
  unfold State.bookStore; (repeat' split) <;> simp
@[simp] theorem State.bookStore_steer (x : MeterEntry) (std : Nat) (s : State) : (s.bookStore x std).steer = s.steer := by
  unfold State.bookStore; (repeat' split) <;> simp
@[simp] theorem State.bookStore_coup (x : MeterEntry) (std : Nat) (s : State) : (s.bookStore x std).coup = s.coup := by
  unfold State.bookStore; (repeat' split) <;> simp
@[simp] theorem State.bookStore_mgmt (x : MeterEntry) (std : Nat) (s : State) : (s.bookStore x std).mgmt = s.mgmt := by
  unfold State.bookStore; (repeat' split) <;> simp
@[simp] theorem State.bookStore_params (x : MeterEntry) (std : Nat) (s : State) : (s.bookStore x std).params = s.params := by
  unfold State.bookStore; (repeat' split) <;> simp
@[simp] theorem State.bookStore_straps (x : MeterEntry) (std : Nat) (s : State) : (s.bookStore x std).straps = s.straps := by
  unfold State.bookStore; (repeat' split) <;> simp
@[simp] theorem State.bookStore_channel (x : MeterEntry) (std : Nat) (s : State) : (s.bookStore x std).channel = s.channel := by
  unfold State.bookStore; (repeat' split) <;> simp
@[simp] theorem State.bookStore_restart (x : MeterEntry) (std : Nat) (s : State) : (s.bookStore x std).restart = s.restart := by
  unfold State.bookStore; (repeat' split) <;> simp
@[simp] theorem State.bookStore_replyWait (x : MeterEntry) (std : Nat) (s : State) : (s.bookStore x std).replyWait = s.replyWait := by
  unfold State.bookStore; (repeat' split) <;> simp
@[simp] theorem State.bookStore_pending (x : MeterEntry) (std : Nat) (s : State) : (s.bookStore x std).pending = s.pending := by
  unfold State.bookStore; (repeat' split) <;> simp

@[simp] theorem State.checkRun_station (x : MeterEntry) (std : Nat) (s : State) : (s.checkRun x std).station = s.station := by
  unfold State.checkRun; (repeat' split) <;> simp
@[simp] theorem State.checkRun_prop (x : MeterEntry) (std : Nat) (s : State) : (s.checkRun x std).prop = s.prop := by
  unfold State.checkRun; (repeat' split) <;> simp
@[simp] theorem State.checkRun_steer (x : MeterEntry) (std : Nat) (s : State) : (s.checkRun x std).steer = s.steer := by
  unfold State.checkRun; (repeat' split) <;> simp
@[simp] theorem State.checkRun_coup (x : MeterEntry) (std : Nat) (s : State) : (s.checkRun x std).coup = s.coup := by
  unfold State.checkRun; (repeat' split) <;> simp
@[simp] theorem State.checkRun_mgmt (x : MeterEntry) (std : Nat) (s : State) : (s.checkRun x std).mgmt = s.mgmt := by
  unfold State.checkRun; (repeat' split) <;> simp
@[simp] theorem State.checkRun_params (x : MeterEntry) (std : Nat) (s : State) : (s.checkRun x std).params = s.params := by
  unfold State.checkRun; (repeat' split) <;> simp
@[simp] theorem State.checkRun_straps (x : MeterEntry) (std : Nat) (s : State) : (s.checkRun x std).straps = s.straps := by
  unfold State.checkRun; (repeat' split) <;> simp
@[simp] theorem State.checkRun_channel (x : MeterEntry) (std : Nat) (s : State) : (s.checkRun x std).channel = s.channel := by
  unfold State.checkRun; (repeat' split) <;> simp
@[simp] theorem State.checkRun_restart (x : MeterEntry) (std : Nat) (s : State) : (s.checkRun x std).restart = s.restart := by
  unfold State.checkRun; (repeat' split) <;> simp
@[simp] theorem State.checkRun_replyWait (x : MeterEntry) (std : Nat) (s : State) : (s.checkRun x std).replyWait = s.replyWait := by
  unfold State.checkRun; (repeat' split) <;> simp
@[simp] theorem State.checkRun_pending (x : MeterEntry) (std : Nat) (s : State) : (s.checkRun x std).pending = s.pending := by
  unfold State.checkRun; (repeat' split) <;> simp

@[simp] theorem State.meterFlow_station (i : Fin 8) (count : Nat) (temp : Int) (s : State) : (s.meterFlow i count temp).station = s.station := by
  unfold State.meterFlow; dsimp only; (repeat' split) <;> simp
@[simp] theorem State.meterFlow_prop (i : Fin 8) (count : Nat) (temp : Int) (s : State) : (s.meterFlow i count temp).prop = s.prop := by
  unfold State.meterFlow; dsimp only; (repeat' split) <;> simp
@[simp] theorem State.meterFlow_steer (i : Fin 8) (count : Nat) (temp : Int) (s : State) : (s.meterFlow i count temp).steer = s.steer := by
  unfold State.meterFlow; dsimp only; (repeat' split) <;> simp
@[simp] theorem State.meterFlow_coup (i : Fin 8) (count : Nat) (temp : Int) (s : State) : (s.meterFlow i count temp).coup = s.coup := by
  unfold State.meterFlow; dsimp only; (repeat' split) <;> simp
@[simp] theorem State.meterFlow_mgmt (i : Fin 8) (count : Nat) (temp : Int) (s : State) : (s.meterFlow i count temp).mgmt = s.mgmt := by
  unfold State.meterFlow; dsimp only; (repeat' split) <;> simp
@[simp] theorem State.meterFlow_params (i : Fin 8) (count : Nat) (temp : Int) (s : State) : (s.meterFlow i count temp).params = s.params := by
  unfold State.meterFlow; dsimp only; (repeat' split) <;> simp
@[simp] theorem State.meterFlow_straps (i : Fin 8) (count : Nat) (temp : Int) (s : State) : (s.meterFlow i count temp).straps = s.straps := by
  unfold State.meterFlow; dsimp only; (repeat' split) <;> simp
@[simp] theorem State.meterFlow_channel (i : Fin 8) (count : Nat) (temp : Int) (s : State) : (s.meterFlow i count temp).channel = s.channel := by
  unfold State.meterFlow; dsimp only; (repeat' split) <;> simp
@[simp] theorem State.meterFlow_restart (i : Fin 8) (count : Nat) (temp : Int) (s : State) : (s.meterFlow i count temp).restart = s.restart := by
  unfold State.meterFlow; dsimp only; (repeat' split) <;> simp
@[simp] theorem State.meterFlow_replyWait (i : Fin 8) (count : Nat) (temp : Int) (s : State) : (s.meterFlow i count temp).replyWait = s.replyWait := by
  unfold State.meterFlow; dsimp only; (repeat' split) <;> simp
@[simp] theorem State.meterFlow_pending (i : Fin 8) (count : Nat) (temp : Int) (s : State) : (s.meterFlow i count temp).pending = s.pending := by
  unfold State.meterFlow; dsimp only; (repeat' split) <;> simp

@[simp] theorem State.takeFlow_station (ch : Nat) (data : List Byte) (s : State) : (s.takeFlow ch data).station = s.station := by
  unfold State.takeFlow; (repeat' split) <;> simp
@[simp] theorem State.takeFlow_prop (ch : Nat) (data : List Byte) (s : State) : (s.takeFlow ch data).prop = s.prop := by
  unfold State.takeFlow; (repeat' split) <;> simp
@[simp] theorem State.takeFlow_steer (ch : Nat) (data : List Byte) (s : State) : (s.takeFlow ch data).steer = s.steer := by
  unfold State.takeFlow; (repeat' split) <;> simp
@[simp] theorem State.takeFlow_coup (ch : Nat) (data : List Byte) (s : State) : (s.takeFlow ch data).coup = s.coup := by
  unfold State.takeFlow; (repeat' split) <;> simp
@[simp] theorem State.takeFlow_mgmt (ch : Nat) (data : List Byte) (s : State) : (s.takeFlow ch data).mgmt = s.mgmt := by
  unfold State.takeFlow; (repeat' split) <;> simp
@[simp] theorem State.takeFlow_params (ch : Nat) (data : List Byte) (s : State) : (s.takeFlow ch data).params = s.params := by
  unfold State.takeFlow; (repeat' split) <;> simp
@[simp] theorem State.takeFlow_straps (ch : Nat) (data : List Byte) (s : State) : (s.takeFlow ch data).straps = s.straps := by
  unfold State.takeFlow; (repeat' split) <;> simp
@[simp] theorem State.takeFlow_channel (ch : Nat) (data : List Byte) (s : State) : (s.takeFlow ch data).channel = s.channel := by
  unfold State.takeFlow; (repeat' split) <;> simp
@[simp] theorem State.takeFlow_restart (ch : Nat) (data : List Byte) (s : State) : (s.takeFlow ch data).restart = s.restart := by
  unfold State.takeFlow; (repeat' split) <;> simp
@[simp] theorem State.takeFlow_replyWait (ch : Nat) (data : List Byte) (s : State) : (s.takeFlow ch data).replyWait = s.replyWait := by
  unfold State.takeFlow; (repeat' split) <;> simp
@[simp] theorem State.takeFlow_pending (ch : Nat) (data : List Byte) (s : State) : (s.takeFlow ch data).pending = s.pending := by
  unfold State.takeFlow; (repeat' split) <;> simp

@[simp] theorem State.capture_station (why : CaptureReason) (s : State) : (s.capture why).station = s.station := by
  unfold State.capture; dsimp only; split <;> simp
@[simp] theorem State.capture_prop (why : CaptureReason) (s : State) : (s.capture why).prop = s.prop := by
  unfold State.capture; dsimp only; split <;> simp
@[simp] theorem State.capture_steer (why : CaptureReason) (s : State) : (s.capture why).steer = s.steer := by
  unfold State.capture; dsimp only; split <;> simp
@[simp] theorem State.capture_coup (why : CaptureReason) (s : State) : (s.capture why).coup = s.coup := by
  unfold State.capture; dsimp only; split <;> simp
@[simp] theorem State.capture_mgmt (why : CaptureReason) (s : State) : (s.capture why).mgmt = s.mgmt := by
  unfold State.capture; dsimp only; split <;> simp
@[simp] theorem State.capture_params (why : CaptureReason) (s : State) : (s.capture why).params = s.params := by
  unfold State.capture; dsimp only; split <;> simp
@[simp] theorem State.capture_straps (why : CaptureReason) (s : State) : (s.capture why).straps = s.straps := by
  unfold State.capture; dsimp only; split <;> simp
@[simp] theorem State.capture_channel (why : CaptureReason) (s : State) : (s.capture why).channel = s.channel := by
  unfold State.capture; dsimp only; split <;> simp
@[simp] theorem State.capture_restart (why : CaptureReason) (s : State) : (s.capture why).restart = s.restart := by
  unfold State.capture; dsimp only; split <;> simp
@[simp] theorem State.capture_replyWait (why : CaptureReason) (s : State) : (s.capture why).replyWait = s.replyWait := by
  unfold State.capture; dsimp only; split <;> simp
@[simp] theorem State.capture_pending (why : CaptureReason) (s : State) : (s.capture why).pending = s.pending := by
  unfold State.capture; dsimp only; split <;> simp

@[simp] theorem State.createTanks_station (s : State) : (s.createTanks).station = s.station := by
  unfold State.createTanks; refine (foldl_field (State.station) (fun s t => by split <;> simp) _ _).trans ?_; rfl
@[simp] theorem State.createTanks_prop (s : State) : (s.createTanks).prop = s.prop := by
  unfold State.createTanks; refine (foldl_field (State.prop) (fun s t => by split <;> simp) _ _).trans ?_; rfl
@[simp] theorem State.createTanks_steer (s : State) : (s.createTanks).steer = s.steer := by
  unfold State.createTanks; refine (foldl_field (State.steer) (fun s t => by split <;> simp) _ _).trans ?_; rfl
@[simp] theorem State.createTanks_coup (s : State) : (s.createTanks).coup = s.coup := by
  unfold State.createTanks; refine (foldl_field (State.coup) (fun s t => by split <;> simp) _ _).trans ?_; rfl
@[simp] theorem State.createTanks_mgmt (s : State) : (s.createTanks).mgmt = s.mgmt := by
  unfold State.createTanks; refine (foldl_field (State.mgmt) (fun s t => by split <;> simp) _ _).trans ?_; rfl
@[simp] theorem State.createTanks_params (s : State) : (s.createTanks).params = s.params := by
  unfold State.createTanks; refine (foldl_field (State.params) (fun s t => by split <;> simp) _ _).trans ?_; rfl
@[simp] theorem State.createTanks_straps (s : State) : (s.createTanks).straps = s.straps := by
  unfold State.createTanks; refine (foldl_field (State.straps) (fun s t => by split <;> simp) _ _).trans ?_; rfl
@[simp] theorem State.createTanks_channel (s : State) : (s.createTanks).channel = s.channel := by
  unfold State.createTanks; refine (foldl_field (State.channel) (fun s t => by split <;> simp) _ _).trans ?_; rfl
@[simp] theorem State.createTanks_restart (s : State) : (s.createTanks).restart = s.restart := by
  unfold State.createTanks; refine (foldl_field (State.restart) (fun s t => by split <;> simp) _ _).trans ?_; rfl
@[simp] theorem State.createTanks_replyWait (s : State) : (s.createTanks).replyWait = s.replyWait := by
  unfold State.createTanks; refine (foldl_field (State.replyWait) (fun s t => by split <;> simp) _ _).trans ?_; rfl
@[simp] theorem State.createTanks_pending (s : State) : (s.createTanks).pending = s.pending := by
  unfold State.createTanks; refine (foldl_field (State.pending) (fun s t => by split <;> simp) _ _).trans ?_; rfl

/-! ### Forwarding -/

@[simp] theorem State.copies_station (p : Port) (eg : BitVec 3) (c : LowClass) (f : Frame) (s : State) : (s.copies p eg c f).station = s.station := by
  exact foldl_field (State.station) (fun s q => by split <;> simp) _ s
@[simp] theorem State.copies_prop (p : Port) (eg : BitVec 3) (c : LowClass) (f : Frame) (s : State) : (s.copies p eg c f).prop = s.prop := by
  exact foldl_field (State.prop) (fun s q => by split <;> simp) _ s
@[simp] theorem State.copies_steer (p : Port) (eg : BitVec 3) (c : LowClass) (f : Frame) (s : State) : (s.copies p eg c f).steer = s.steer := by
  exact foldl_field (State.steer) (fun s q => by split <;> simp) _ s
@[simp] theorem State.copies_coup (p : Port) (eg : BitVec 3) (c : LowClass) (f : Frame) (s : State) : (s.copies p eg c f).coup = s.coup := by
  exact foldl_field (State.coup) (fun s q => by split <;> simp) _ s
@[simp] theorem State.copies_fuel (p : Port) (eg : BitVec 3) (c : LowClass) (f : Frame) (s : State) : (s.copies p eg c f).fuel = s.fuel := by
  exact foldl_field (State.fuel) (fun s q => by split <;> simp) _ s
@[simp] theorem State.copies_mgmt (p : Port) (eg : BitVec 3) (c : LowClass) (f : Frame) (s : State) : (s.copies p eg c f).mgmt = s.mgmt := by
  exact foldl_field (State.mgmt) (fun s q => by split <;> simp) _ s
@[simp] theorem State.copies_params (p : Port) (eg : BitVec 3) (c : LowClass) (f : Frame) (s : State) : (s.copies p eg c f).params = s.params := by
  exact foldl_field (State.params) (fun s q => by split <;> simp) _ s
@[simp] theorem State.copies_straps (p : Port) (eg : BitVec 3) (c : LowClass) (f : Frame) (s : State) : (s.copies p eg c f).straps = s.straps := by
  exact foldl_field (State.straps) (fun s q => by split <;> simp) _ s
@[simp] theorem State.copies_channel (p : Port) (eg : BitVec 3) (c : LowClass) (f : Frame) (s : State) : (s.copies p eg c f).channel = s.channel := by
  exact foldl_field (State.channel) (fun s q => by split <;> simp) _ s
@[simp] theorem State.copies_restart (p : Port) (eg : BitVec 3) (c : LowClass) (f : Frame) (s : State) : (s.copies p eg c f).restart = s.restart := by
  exact foldl_field (State.restart) (fun s q => by split <;> simp) _ s
@[simp] theorem State.copies_replyWait (p : Port) (eg : BitVec 3) (c : LowClass) (f : Frame) (s : State) : (s.copies p eg c f).replyWait = s.replyWait := by
  exact foldl_field (State.replyWait) (fun s q => by split <;> simp) _ s
@[simp] theorem State.copies_pending (p : Port) (eg : BitVec 3) (c : LowClass) (f : Frame) (s : State) : (s.copies p eg c f).pending = s.pending := by
  exact foldl_field (State.pending) (fun s q => by split <;> simp) _ s

@[simp] theorem State.forward_station (p : Port) (f : Frame) (s : State) : (s.forward p f).station = s.station := by
  unfold State.forward; (repeat' split) <;> simp
@[simp] theorem State.forward_prop (p : Port) (f : Frame) (s : State) : (s.forward p f).prop = s.prop := by
  unfold State.forward; (repeat' split) <;> simp
@[simp] theorem State.forward_steer (p : Port) (f : Frame) (s : State) : (s.forward p f).steer = s.steer := by
  unfold State.forward; (repeat' split) <;> simp
@[simp] theorem State.forward_coup (p : Port) (f : Frame) (s : State) : (s.forward p f).coup = s.coup := by
  unfold State.forward; (repeat' split) <;> simp
@[simp] theorem State.forward_fuel (p : Port) (f : Frame) (s : State) : (s.forward p f).fuel = s.fuel := by
  unfold State.forward; (repeat' split) <;> simp
@[simp] theorem State.forward_mgmt (p : Port) (f : Frame) (s : State) : (s.forward p f).mgmt = s.mgmt := by
  unfold State.forward; (repeat' split) <;> simp
@[simp] theorem State.forward_params (p : Port) (f : Frame) (s : State) : (s.forward p f).params = s.params := by
  unfold State.forward; (repeat' split) <;> simp
@[simp] theorem State.forward_straps (p : Port) (f : Frame) (s : State) : (s.forward p f).straps = s.straps := by
  unfold State.forward; (repeat' split) <;> simp
@[simp] theorem State.forward_channel (p : Port) (f : Frame) (s : State) : (s.forward p f).channel = s.channel := by
  unfold State.forward; (repeat' split) <;> simp
@[simp] theorem State.forward_restart (p : Port) (f : Frame) (s : State) : (s.forward p f).restart = s.restart := by
  unfold State.forward; (repeat' split) <;> simp
@[simp] theorem State.forward_replyWait (p : Port) (f : Frame) (s : State) : (s.forward p f).replyWait = s.replyWait := by
  unfold State.forward; (repeat' split) <;> simp
@[simp] theorem State.forward_pending (p : Port) (f : Frame) (s : State) : (s.forward p f).pending = s.pending := by
  unfold State.forward; (repeat' split) <;> simp

/-! ### Couplings -/

@[simp] theorem State.completeRelease_station (i : Fin 48) (r : CouplingRecord) (s : State) : (s.completeRelease i r).station = s.station := by
  simp [State.completeRelease]
@[simp] theorem State.completeRelease_prop (i : Fin 48) (r : CouplingRecord) (s : State) : (s.completeRelease i r).prop = s.prop := by
  simp [State.completeRelease]
@[simp] theorem State.completeRelease_fuel (i : Fin 48) (r : CouplingRecord) (s : State) : (s.completeRelease i r).fuel = s.fuel := by
  simp [State.completeRelease]
@[simp] theorem State.completeRelease_mgmt (i : Fin 48) (r : CouplingRecord) (s : State) : (s.completeRelease i r).mgmt = s.mgmt := by
  simp [State.completeRelease]
@[simp] theorem State.completeRelease_params (i : Fin 48) (r : CouplingRecord) (s : State) : (s.completeRelease i r).params = s.params := by
  simp [State.completeRelease]
@[simp] theorem State.completeRelease_straps (i : Fin 48) (r : CouplingRecord) (s : State) : (s.completeRelease i r).straps = s.straps := by
  simp [State.completeRelease]
@[simp] theorem State.completeRelease_channel (i : Fin 48) (r : CouplingRecord) (s : State) : (s.completeRelease i r).channel = s.channel := by
  simp [State.completeRelease]
@[simp] theorem State.completeRelease_restart (i : Fin 48) (r : CouplingRecord) (s : State) : (s.completeRelease i r).restart = s.restart := by
  simp [State.completeRelease]
@[simp] theorem State.completeRelease_replyWait (i : Fin 48) (r : CouplingRecord) (s : State) : (s.completeRelease i r).replyWait = s.replyWait := by
  simp [State.completeRelease]
@[simp] theorem State.completeRelease_pending (i : Fin 48) (r : CouplingRecord) (s : State) : (s.completeRelease i r).pending = s.pending := by
  simp [State.completeRelease]

@[simp] theorem State.reportOpen_station (i : Fin 48) (r : CouplingRecord) (s : State) : (s.reportOpen i r).station = s.station := by
  unfold State.reportOpen; (repeat' split) <;> simp
@[simp] theorem State.reportOpen_prop (i : Fin 48) (r : CouplingRecord) (s : State) : (s.reportOpen i r).prop = s.prop := by
  unfold State.reportOpen; (repeat' split) <;> simp
@[simp] theorem State.reportOpen_fuel (i : Fin 48) (r : CouplingRecord) (s : State) : (s.reportOpen i r).fuel = s.fuel := by
  unfold State.reportOpen; (repeat' split) <;> simp
@[simp] theorem State.reportOpen_mgmt (i : Fin 48) (r : CouplingRecord) (s : State) : (s.reportOpen i r).mgmt = s.mgmt := by
  unfold State.reportOpen; (repeat' split) <;> simp
@[simp] theorem State.reportOpen_params (i : Fin 48) (r : CouplingRecord) (s : State) : (s.reportOpen i r).params = s.params := by
  unfold State.reportOpen; (repeat' split) <;> simp
@[simp] theorem State.reportOpen_straps (i : Fin 48) (r : CouplingRecord) (s : State) : (s.reportOpen i r).straps = s.straps := by
  unfold State.reportOpen; (repeat' split) <;> simp
@[simp] theorem State.reportOpen_channel (i : Fin 48) (r : CouplingRecord) (s : State) : (s.reportOpen i r).channel = s.channel := by
  unfold State.reportOpen; (repeat' split) <;> simp
@[simp] theorem State.reportOpen_restart (i : Fin 48) (r : CouplingRecord) (s : State) : (s.reportOpen i r).restart = s.restart := by
  unfold State.reportOpen; (repeat' split) <;> simp
@[simp] theorem State.reportOpen_replyWait (i : Fin 48) (r : CouplingRecord) (s : State) : (s.reportOpen i r).replyWait = s.replyWait := by
  unfold State.reportOpen; (repeat' split) <;> simp
@[simp] theorem State.reportOpen_pending (i : Fin 48) (r : CouplingRecord) (s : State) : (s.reportOpen i r).pending = s.pending := by
  unfold State.reportOpen; (repeat' split) <;> simp

@[simp] theorem State.reclassified_station (i : Fin 48) (r : CouplingRecord) (s : State) : (s.reclassified i r).station = s.station := by
  unfold State.reclassified; (repeat' split) <;> simp
@[simp] theorem State.reclassified_prop (i : Fin 48) (r : CouplingRecord) (s : State) : (s.reclassified i r).prop = s.prop := by
  unfold State.reclassified; (repeat' split) <;> simp
@[simp] theorem State.reclassified_fuel (i : Fin 48) (r : CouplingRecord) (s : State) : (s.reclassified i r).fuel = s.fuel := by
  unfold State.reclassified; (repeat' split) <;> simp
@[simp] theorem State.reclassified_mgmt (i : Fin 48) (r : CouplingRecord) (s : State) : (s.reclassified i r).mgmt = s.mgmt := by
  unfold State.reclassified; (repeat' split) <;> simp
@[simp] theorem State.reclassified_params (i : Fin 48) (r : CouplingRecord) (s : State) : (s.reclassified i r).params = s.params := by
  unfold State.reclassified; (repeat' split) <;> simp
@[simp] theorem State.reclassified_straps (i : Fin 48) (r : CouplingRecord) (s : State) : (s.reclassified i r).straps = s.straps := by
  unfold State.reclassified; (repeat' split) <;> simp
@[simp] theorem State.reclassified_channel (i : Fin 48) (r : CouplingRecord) (s : State) : (s.reclassified i r).channel = s.channel := by
  unfold State.reclassified; (repeat' split) <;> simp
@[simp] theorem State.reclassified_restart (i : Fin 48) (r : CouplingRecord) (s : State) : (s.reclassified i r).restart = s.restart := by
  unfold State.reclassified; (repeat' split) <;> simp
@[simp] theorem State.reclassified_replyWait (i : Fin 48) (r : CouplingRecord) (s : State) : (s.reclassified i r).replyWait = s.replyWait := by
  unfold State.reclassified; (repeat' split) <;> simp
@[simp] theorem State.reclassified_pending (i : Fin 48) (r : CouplingRecord) (s : State) : (s.reclassified i r).pending = s.pending := by
  unfold State.reclassified; (repeat' split) <;> simp

@[simp] theorem State.reportEngaged_station (i : Fin 48) (r : CouplingRecord) (s : State) : (s.reportEngaged i r).station = s.station := by
  unfold State.reportEngaged; (repeat' split) <;> simp
@[simp] theorem State.reportEngaged_prop (i : Fin 48) (r : CouplingRecord) (s : State) : (s.reportEngaged i r).prop = s.prop := by
  unfold State.reportEngaged; (repeat' split) <;> simp
@[simp] theorem State.reportEngaged_fuel (i : Fin 48) (r : CouplingRecord) (s : State) : (s.reportEngaged i r).fuel = s.fuel := by
  unfold State.reportEngaged; (repeat' split) <;> simp
@[simp] theorem State.reportEngaged_mgmt (i : Fin 48) (r : CouplingRecord) (s : State) : (s.reportEngaged i r).mgmt = s.mgmt := by
  unfold State.reportEngaged; (repeat' split) <;> simp
@[simp] theorem State.reportEngaged_params (i : Fin 48) (r : CouplingRecord) (s : State) : (s.reportEngaged i r).params = s.params := by
  unfold State.reportEngaged; (repeat' split) <;> simp
@[simp] theorem State.reportEngaged_straps (i : Fin 48) (r : CouplingRecord) (s : State) : (s.reportEngaged i r).straps = s.straps := by
  unfold State.reportEngaged; (repeat' split) <;> simp
@[simp] theorem State.reportEngaged_channel (i : Fin 48) (r : CouplingRecord) (s : State) : (s.reportEngaged i r).channel = s.channel := by
  unfold State.reportEngaged; (repeat' split) <;> simp
@[simp] theorem State.reportEngaged_restart (i : Fin 48) (r : CouplingRecord) (s : State) : (s.reportEngaged i r).restart = s.restart := by
  unfold State.reportEngaged; (repeat' split) <;> simp
@[simp] theorem State.reportEngaged_replyWait (i : Fin 48) (r : CouplingRecord) (s : State) : (s.reportEngaged i r).replyWait = s.replyWait := by
  unfold State.reportEngaged; (repeat' split) <;> simp
@[simp] theorem State.reportEngaged_pending (i : Fin 48) (r : CouplingRecord) (s : State) : (s.reportEngaged i r).pending = s.pending := by
  unfold State.reportEngaged; (repeat' split) <;> simp

@[simp] theorem State.reportCoupling_station (i : Fin 48) (t : Nat) (o : Bool) (s : State) : (s.reportCoupling i t o).station = s.station := by
  unfold State.reportCoupling; dsimp only; (repeat' split) <;> simp
@[simp] theorem State.reportCoupling_prop (i : Fin 48) (t : Nat) (o : Bool) (s : State) : (s.reportCoupling i t o).prop = s.prop := by
  unfold State.reportCoupling; dsimp only; (repeat' split) <;> simp
@[simp] theorem State.reportCoupling_fuel (i : Fin 48) (t : Nat) (o : Bool) (s : State) : (s.reportCoupling i t o).fuel = s.fuel := by
  unfold State.reportCoupling; dsimp only; (repeat' split) <;> simp
@[simp] theorem State.reportCoupling_mgmt (i : Fin 48) (t : Nat) (o : Bool) (s : State) : (s.reportCoupling i t o).mgmt = s.mgmt := by
  unfold State.reportCoupling; dsimp only; (repeat' split) <;> simp
@[simp] theorem State.reportCoupling_params (i : Fin 48) (t : Nat) (o : Bool) (s : State) : (s.reportCoupling i t o).params = s.params := by
  unfold State.reportCoupling; dsimp only; (repeat' split) <;> simp
@[simp] theorem State.reportCoupling_straps (i : Fin 48) (t : Nat) (o : Bool) (s : State) : (s.reportCoupling i t o).straps = s.straps := by
  unfold State.reportCoupling; dsimp only; (repeat' split) <;> simp
@[simp] theorem State.reportCoupling_channel (i : Fin 48) (t : Nat) (o : Bool) (s : State) : (s.reportCoupling i t o).channel = s.channel := by
  unfold State.reportCoupling; dsimp only; (repeat' split) <;> simp
@[simp] theorem State.reportCoupling_restart (i : Fin 48) (t : Nat) (o : Bool) (s : State) : (s.reportCoupling i t o).restart = s.restart := by
  unfold State.reportCoupling; dsimp only; (repeat' split) <;> simp
@[simp] theorem State.reportCoupling_replyWait (i : Fin 48) (t : Nat) (o : Bool) (s : State) : (s.reportCoupling i t o).replyWait = s.replyWait := by
  unfold State.reportCoupling; dsimp only; (repeat' split) <;> simp
@[simp] theorem State.reportCoupling_pending (i : Fin 48) (t : Nat) (o : Bool) (s : State) : (s.reportCoupling i t o).pending = s.pending := by
  unfold State.reportCoupling; dsimp only; (repeat' split) <;> simp

@[simp] theorem State.takeCoupleReport_station (ch : Nat) (data : List Byte) (s : State) : (s.takeCoupleReport ch data).station = s.station := by
  unfold State.takeCoupleReport; (repeat' split) <;> simp
@[simp] theorem State.takeCoupleReport_prop (ch : Nat) (data : List Byte) (s : State) : (s.takeCoupleReport ch data).prop = s.prop := by
  unfold State.takeCoupleReport; (repeat' split) <;> simp
@[simp] theorem State.takeCoupleReport_fuel (ch : Nat) (data : List Byte) (s : State) : (s.takeCoupleReport ch data).fuel = s.fuel := by
  unfold State.takeCoupleReport; (repeat' split) <;> simp
@[simp] theorem State.takeCoupleReport_mgmt (ch : Nat) (data : List Byte) (s : State) : (s.takeCoupleReport ch data).mgmt = s.mgmt := by
  unfold State.takeCoupleReport; (repeat' split) <;> simp
@[simp] theorem State.takeCoupleReport_params (ch : Nat) (data : List Byte) (s : State) : (s.takeCoupleReport ch data).params = s.params := by
  unfold State.takeCoupleReport; (repeat' split) <;> simp
@[simp] theorem State.takeCoupleReport_straps (ch : Nat) (data : List Byte) (s : State) : (s.takeCoupleReport ch data).straps = s.straps := by
  unfold State.takeCoupleReport; (repeat' split) <;> simp
@[simp] theorem State.takeCoupleReport_channel (ch : Nat) (data : List Byte) (s : State) : (s.takeCoupleReport ch data).channel = s.channel := by
  unfold State.takeCoupleReport; (repeat' split) <;> simp
@[simp] theorem State.takeCoupleReport_restart (ch : Nat) (data : List Byte) (s : State) : (s.takeCoupleReport ch data).restart = s.restart := by
  unfold State.takeCoupleReport; (repeat' split) <;> simp
@[simp] theorem State.takeCoupleReport_replyWait (ch : Nat) (data : List Byte) (s : State) : (s.takeCoupleReport ch data).replyWait = s.replyWait := by
  unfold State.takeCoupleReport; (repeat' split) <;> simp
@[simp] theorem State.takeCoupleReport_pending (ch : Nat) (data : List Byte) (s : State) : (s.takeCoupleReport ch data).pending = s.pending := by
  unfold State.takeCoupleReport; (repeat' split) <;> simp

@[simp] theorem State.pollStep_station (s : State) : (s.pollStep).station = s.station := by
  unfold State.pollStep; dsimp only; (repeat' split) <;> simp
@[simp] theorem State.pollStep_prop (s : State) : (s.pollStep).prop = s.prop := by
  unfold State.pollStep; dsimp only; (repeat' split) <;> simp
@[simp] theorem State.pollStep_steer (s : State) : (s.pollStep).steer = s.steer := by
  unfold State.pollStep; dsimp only; (repeat' split) <;> simp
@[simp] theorem State.pollStep_fuel (s : State) : (s.pollStep).fuel = s.fuel := by
  unfold State.pollStep; dsimp only; (repeat' split) <;> simp
@[simp] theorem State.pollStep_mgmt (s : State) : (s.pollStep).mgmt = s.mgmt := by
  unfold State.pollStep; dsimp only; (repeat' split) <;> simp
@[simp] theorem State.pollStep_params (s : State) : (s.pollStep).params = s.params := by
  unfold State.pollStep; dsimp only; (repeat' split) <;> simp
@[simp] theorem State.pollStep_straps (s : State) : (s.pollStep).straps = s.straps := by
  unfold State.pollStep; dsimp only; (repeat' split) <;> simp
@[simp] theorem State.pollStep_channel (s : State) : (s.pollStep).channel = s.channel := by
  unfold State.pollStep; dsimp only; (repeat' split) <;> simp
@[simp] theorem State.pollStep_restart (s : State) : (s.pollStep).restart = s.restart := by
  unfold State.pollStep; dsimp only; (repeat' split) <;> simp
@[simp] theorem State.pollStep_replyWait (s : State) : (s.pollStep).replyWait = s.replyWait := by
  unfold State.pollStep; dsimp only; (repeat' split) <;> simp
@[simp] theorem State.pollStep_pending (s : State) : (s.pollStep).pending = s.pending := by
  unfold State.pollStep; dsimp only; (repeat' split) <;> simp

@[simp] theorem State.staleStep_station (i : Fin 48) (s : State) : (s.staleStep i).station = s.station := by
  unfold State.staleStep; (repeat' split) <;> simp
@[simp] theorem State.staleStep_prop (i : Fin 48) (s : State) : (s.staleStep i).prop = s.prop := by
  unfold State.staleStep; (repeat' split) <;> simp
@[simp] theorem State.staleStep_fuel (i : Fin 48) (s : State) : (s.staleStep i).fuel = s.fuel := by
  unfold State.staleStep; (repeat' split) <;> simp
@[simp] theorem State.staleStep_mgmt (i : Fin 48) (s : State) : (s.staleStep i).mgmt = s.mgmt := by
  unfold State.staleStep; (repeat' split) <;> simp
@[simp] theorem State.staleStep_params (i : Fin 48) (s : State) : (s.staleStep i).params = s.params := by
  unfold State.staleStep; (repeat' split) <;> simp
@[simp] theorem State.staleStep_straps (i : Fin 48) (s : State) : (s.staleStep i).straps = s.straps := by
  unfold State.staleStep; (repeat' split) <;> simp
@[simp] theorem State.staleStep_channel (i : Fin 48) (s : State) : (s.staleStep i).channel = s.channel := by
  unfold State.staleStep; (repeat' split) <;> simp
@[simp] theorem State.staleStep_restart (i : Fin 48) (s : State) : (s.staleStep i).restart = s.restart := by
  unfold State.staleStep; (repeat' split) <;> simp
@[simp] theorem State.staleStep_replyWait (i : Fin 48) (s : State) : (s.staleStep i).replyWait = s.replyWait := by
  unfold State.staleStep; (repeat' split) <;> simp
@[simp] theorem State.staleStep_pending (i : Fin 48) (s : State) : (s.staleStep i).pending = s.pending := by
  unfold State.staleStep; (repeat' split) <;> simp

@[simp] theorem State.ageStep_station (s : State) : (s.ageStep).station = s.station := by
  exact (foldl_field (State.station) (fun s i => State.staleStep_station i s) _ _).trans (by simp)
@[simp] theorem State.ageStep_prop (s : State) : (s.ageStep).prop = s.prop := by
  exact (foldl_field (State.prop) (fun s i => State.staleStep_prop i s) _ _).trans (by simp)
@[simp] theorem State.ageStep_fuel (s : State) : (s.ageStep).fuel = s.fuel := by
  exact (foldl_field (State.fuel) (fun s i => State.staleStep_fuel i s) _ _).trans (by simp)
@[simp] theorem State.ageStep_mgmt (s : State) : (s.ageStep).mgmt = s.mgmt := by
  exact (foldl_field (State.mgmt) (fun s i => State.staleStep_mgmt i s) _ _).trans (by simp)
@[simp] theorem State.ageStep_params (s : State) : (s.ageStep).params = s.params := by
  exact (foldl_field (State.params) (fun s i => State.staleStep_params i s) _ _).trans (by simp)
@[simp] theorem State.ageStep_straps (s : State) : (s.ageStep).straps = s.straps := by
  exact (foldl_field (State.straps) (fun s i => State.staleStep_straps i s) _ _).trans (by simp)
@[simp] theorem State.ageStep_channel (s : State) : (s.ageStep).channel = s.channel := by
  exact (foldl_field (State.channel) (fun s i => State.staleStep_channel i s) _ _).trans (by simp)
@[simp] theorem State.ageStep_restart (s : State) : (s.ageStep).restart = s.restart := by
  exact (foldl_field (State.restart) (fun s i => State.staleStep_restart i s) _ _).trans (by simp)
@[simp] theorem State.ageStep_replyWait (s : State) : (s.ageStep).replyWait = s.replyWait := by
  exact (foldl_field (State.replyWait) (fun s i => State.staleStep_replyWait i s) _ _).trans (by simp)
@[simp] theorem State.ageStep_pending (s : State) : (s.ageStep).pending = s.pending := by
  exact (foldl_field (State.pending) (fun s i => State.staleStep_pending i s) _ _).trans (by simp)

@[simp] theorem State.holdStep_station (s : State) : (s.holdStep).station = s.station := by
  unfold State.holdStep; dsimp only; (repeat' split) <;> simp
@[simp] theorem State.holdStep_prop (s : State) : (s.holdStep).prop = s.prop := by
  unfold State.holdStep; dsimp only; (repeat' split) <;> simp
@[simp] theorem State.holdStep_steer (s : State) : (s.holdStep).steer = s.steer := by
  unfold State.holdStep; dsimp only; (repeat' split) <;> simp
@[simp] theorem State.holdStep_fuel (s : State) : (s.holdStep).fuel = s.fuel := by
  unfold State.holdStep; dsimp only; (repeat' split) <;> simp
@[simp] theorem State.holdStep_mgmt (s : State) : (s.holdStep).mgmt = s.mgmt := by
  unfold State.holdStep; dsimp only; (repeat' split) <;> simp
@[simp] theorem State.holdStep_params (s : State) : (s.holdStep).params = s.params := by
  unfold State.holdStep; dsimp only; (repeat' split) <;> simp
@[simp] theorem State.holdStep_straps (s : State) : (s.holdStep).straps = s.straps := by
  unfold State.holdStep; dsimp only; (repeat' split) <;> simp
@[simp] theorem State.holdStep_channel (s : State) : (s.holdStep).channel = s.channel := by
  unfold State.holdStep; dsimp only; (repeat' split) <;> simp
@[simp] theorem State.holdStep_restart (s : State) : (s.holdStep).restart = s.restart := by
  unfold State.holdStep; dsimp only; (repeat' split) <;> simp
@[simp] theorem State.holdStep_replyWait (s : State) : (s.holdStep).replyWait = s.replyWait := by
  unfold State.holdStep; dsimp only; (repeat' split) <;> simp
@[simp] theorem State.holdStep_pending (s : State) : (s.holdStep).pending = s.pending := by
  unfold State.holdStep; dsimp only; (repeat' split) <;> simp

@[simp] theorem State.failRelease_station (i : Fin 48) (s : State) : (s.failRelease i).station = s.station := by
  simp [State.failRelease]
@[simp] theorem State.failRelease_prop (i : Fin 48) (s : State) : (s.failRelease i).prop = s.prop := by
  simp [State.failRelease]
@[simp] theorem State.failRelease_fuel (i : Fin 48) (s : State) : (s.failRelease i).fuel = s.fuel := by
  simp [State.failRelease]
@[simp] theorem State.failRelease_mgmt (i : Fin 48) (s : State) : (s.failRelease i).mgmt = s.mgmt := by
  simp [State.failRelease]
@[simp] theorem State.failRelease_params (i : Fin 48) (s : State) : (s.failRelease i).params = s.params := by
  simp [State.failRelease]
@[simp] theorem State.failRelease_straps (i : Fin 48) (s : State) : (s.failRelease i).straps = s.straps := by
  simp [State.failRelease]
@[simp] theorem State.failRelease_channel (i : Fin 48) (s : State) : (s.failRelease i).channel = s.channel := by
  simp [State.failRelease]
@[simp] theorem State.failRelease_restart (i : Fin 48) (s : State) : (s.failRelease i).restart = s.restart := by
  simp [State.failRelease]
@[simp] theorem State.failRelease_replyWait (i : Fin 48) (s : State) : (s.failRelease i).replyWait = s.replyWait := by
  simp [State.failRelease]
@[simp] theorem State.failRelease_pending (i : Fin 48) (s : State) : (s.failRelease i).pending = s.pending := by
  simp [State.failRelease]

@[simp] theorem State.acceptRelease_station (i : Fin 48) (r : CouplingRecord) (s : State) : (s.acceptRelease i r).station = s.station := by
  simp [State.acceptRelease]
@[simp] theorem State.acceptRelease_prop (i : Fin 48) (r : CouplingRecord) (s : State) : (s.acceptRelease i r).prop = s.prop := by
  simp [State.acceptRelease]
@[simp] theorem State.acceptRelease_fuel (i : Fin 48) (r : CouplingRecord) (s : State) : (s.acceptRelease i r).fuel = s.fuel := by
  simp [State.acceptRelease]
@[simp] theorem State.acceptRelease_mgmt (i : Fin 48) (r : CouplingRecord) (s : State) : (s.acceptRelease i r).mgmt = s.mgmt := by
  simp [State.acceptRelease]
@[simp] theorem State.acceptRelease_params (i : Fin 48) (r : CouplingRecord) (s : State) : (s.acceptRelease i r).params = s.params := by
  simp [State.acceptRelease]
@[simp] theorem State.acceptRelease_straps (i : Fin 48) (r : CouplingRecord) (s : State) : (s.acceptRelease i r).straps = s.straps := by
  simp [State.acceptRelease]
@[simp] theorem State.acceptRelease_channel (i : Fin 48) (r : CouplingRecord) (s : State) : (s.acceptRelease i r).channel = s.channel := by
  simp [State.acceptRelease]
@[simp] theorem State.acceptRelease_restart (i : Fin 48) (r : CouplingRecord) (s : State) : (s.acceptRelease i r).restart = s.restart := by
  simp [State.acceptRelease]
@[simp] theorem State.acceptRelease_replyWait (i : Fin 48) (r : CouplingRecord) (s : State) : (s.acceptRelease i r).replyWait = s.replyWait := by
  simp [State.acceptRelease]
@[simp] theorem State.acceptRelease_pending (i : Fin 48) (r : CouplingRecord) (s : State) : (s.acceptRelease i r).pending = s.pending := by
  simp [State.acceptRelease]

@[simp] theorem State.createCouplings_station (s : State) : (s.createCouplings).station = s.station := by
  simp [State.createCouplings]
@[simp] theorem State.createCouplings_prop (s : State) : (s.createCouplings).prop = s.prop := by
  simp [State.createCouplings]
@[simp] theorem State.createCouplings_fuel (s : State) : (s.createCouplings).fuel = s.fuel := by
  simp [State.createCouplings]
@[simp] theorem State.createCouplings_mgmt (s : State) : (s.createCouplings).mgmt = s.mgmt := by
  simp [State.createCouplings]
@[simp] theorem State.createCouplings_params (s : State) : (s.createCouplings).params = s.params := by
  simp [State.createCouplings]
@[simp] theorem State.createCouplings_straps (s : State) : (s.createCouplings).straps = s.straps := by
  simp [State.createCouplings]
@[simp] theorem State.createCouplings_channel (s : State) : (s.createCouplings).channel = s.channel := by
  simp [State.createCouplings]
@[simp] theorem State.createCouplings_restart (s : State) : (s.createCouplings).restart = s.restart := by
  simp [State.createCouplings]
@[simp] theorem State.createCouplings_replyWait (s : State) : (s.createCouplings).replyWait = s.replyWait := by
  simp [State.createCouplings]
@[simp] theorem State.createCouplings_pending (s : State) : (s.createCouplings).pending = s.pending := by
  simp [State.createCouplings]

@[simp] theorem State.dropCouplings_station (s : State) : (s.dropCouplings).station = s.station := by
  simp [State.dropCouplings]
@[simp] theorem State.dropCouplings_prop (s : State) : (s.dropCouplings).prop = s.prop := by
  simp [State.dropCouplings]
@[simp] theorem State.dropCouplings_fuel (s : State) : (s.dropCouplings).fuel = s.fuel := by
  simp [State.dropCouplings]
@[simp] theorem State.dropCouplings_mgmt (s : State) : (s.dropCouplings).mgmt = s.mgmt := by
  simp [State.dropCouplings]
@[simp] theorem State.dropCouplings_params (s : State) : (s.dropCouplings).params = s.params := by
  simp [State.dropCouplings]
@[simp] theorem State.dropCouplings_straps (s : State) : (s.dropCouplings).straps = s.straps := by
  simp [State.dropCouplings]
@[simp] theorem State.dropCouplings_channel (s : State) : (s.dropCouplings).channel = s.channel := by
  simp [State.dropCouplings]
@[simp] theorem State.dropCouplings_restart (s : State) : (s.dropCouplings).restart = s.restart := by
  simp [State.dropCouplings]
@[simp] theorem State.dropCouplings_replyWait (s : State) : (s.dropCouplings).replyWait = s.replyWait := by
  simp [State.dropCouplings]
@[simp] theorem State.dropCouplings_pending (s : State) : (s.dropCouplings).pending = s.pending := by
  simp [State.dropCouplings]

/-! ### Expiries and reports -/

@[simp] theorem State.watchBow_station (before after : State) :
    (State.watchBow before after).station = after.station := by
  unfold State.watchBow; split <;> simp
@[simp] theorem State.watchBow_prop (before after : State) :
    (State.watchBow before after).prop = after.prop := by
  unfold State.watchBow; split <;> simp
@[simp] theorem State.watchBow_fuel (before after : State) :
    (State.watchBow before after).fuel = after.fuel := by
  unfold State.watchBow; split <;> simp
@[simp] theorem State.watchBow_mgmt (before after : State) :
    (State.watchBow before after).mgmt = after.mgmt := by
  unfold State.watchBow; split <;> simp
@[simp] theorem State.watchBow_params (before after : State) :
    (State.watchBow before after).params = after.params := by
  unfold State.watchBow; split <;> simp
@[simp] theorem State.watchBow_straps (before after : State) :
    (State.watchBow before after).straps = after.straps := by
  unfold State.watchBow; split <;> simp
@[simp] theorem State.watchBow_channel (before after : State) :
    (State.watchBow before after).channel = after.channel := by
  unfold State.watchBow; split <;> simp
@[simp] theorem State.watchBow_restart (before after : State) :
    (State.watchBow before after).restart = after.restart := by
  unfold State.watchBow; split <;> simp
@[simp] theorem State.watchBow_replyWait (before after : State) :
    (State.watchBow before after).replyWait = after.replyWait := by
  unfold State.watchBow; split <;> simp
@[simp] theorem State.watchBow_pending (before after : State) :
    (State.watchBow before after).pending = after.pending := by
  unfold State.watchBow; split <;> simp

@[simp] theorem State.steerActuator_station (level elapsed : Nat) (s : State) (j : Fin 8) :
    (s.steerActuator level elapsed j).station = s.station := by
  unfold State.steerActuator; dsimp only; (repeat' split) <;> simp
@[simp] theorem State.steerActuator_prop (level elapsed : Nat) (s : State) (j : Fin 8) :
    (s.steerActuator level elapsed j).prop = s.prop := by
  unfold State.steerActuator; dsimp only; (repeat' split) <;> simp
@[simp] theorem State.steerActuator_fuel (level elapsed : Nat) (s : State) (j : Fin 8) :
    (s.steerActuator level elapsed j).fuel = s.fuel := by
  unfold State.steerActuator; dsimp only; (repeat' split) <;> simp
@[simp] theorem State.steerActuator_mgmt (level elapsed : Nat) (s : State) (j : Fin 8) :
    (s.steerActuator level elapsed j).mgmt = s.mgmt := by
  unfold State.steerActuator; dsimp only; (repeat' split) <;> simp
@[simp] theorem State.steerActuator_params (level elapsed : Nat) (s : State) (j : Fin 8) :
    (s.steerActuator level elapsed j).params = s.params := by
  unfold State.steerActuator; dsimp only; (repeat' split) <;> simp
@[simp] theorem State.steerActuator_straps (level elapsed : Nat) (s : State) (j : Fin 8) :
    (s.steerActuator level elapsed j).straps = s.straps := by
  unfold State.steerActuator; dsimp only; (repeat' split) <;> simp
@[simp] theorem State.steerActuator_channel (level elapsed : Nat) (s : State) (j : Fin 8) :
    (s.steerActuator level elapsed j).channel = s.channel := by
  unfold State.steerActuator; dsimp only; (repeat' split) <;> simp
@[simp] theorem State.steerActuator_restart (level elapsed : Nat) (s : State) (j : Fin 8) :
    (s.steerActuator level elapsed j).restart = s.restart := by
  unfold State.steerActuator; dsimp only; (repeat' split) <;> simp
@[simp] theorem State.steerActuator_replyWait (level elapsed : Nat) (s : State) (j : Fin 8) :
    (s.steerActuator level elapsed j).replyWait = s.replyWait := by
  unfold State.steerActuator; dsimp only; (repeat' split) <;> simp
@[simp] theorem State.steerActuator_pending (level elapsed : Nat) (s : State) (j : Fin 8) :
    (s.steerActuator level elapsed j).pending = s.pending := by
  unfold State.steerActuator; dsimp only; (repeat' split) <;> simp

@[simp] theorem State.reportTo_station (v : Int) (s : State) (j : Fin 8) :
    (State.reportTo v s j).station = s.station := by
  unfold State.reportTo; dsimp only; (repeat' split) <;> simp
@[simp] theorem State.reportTo_prop (v : Int) (s : State) (j : Fin 8) :
    (State.reportTo v s j).prop = s.prop := by
  unfold State.reportTo; dsimp only; (repeat' split) <;> simp
@[simp] theorem State.reportTo_fuel (v : Int) (s : State) (j : Fin 8) :
    (State.reportTo v s j).fuel = s.fuel := by
  unfold State.reportTo; dsimp only; (repeat' split) <;> simp
@[simp] theorem State.reportTo_mgmt (v : Int) (s : State) (j : Fin 8) :
    (State.reportTo v s j).mgmt = s.mgmt := by
  unfold State.reportTo; dsimp only; (repeat' split) <;> simp
@[simp] theorem State.reportTo_params (v : Int) (s : State) (j : Fin 8) :
    (State.reportTo v s j).params = s.params := by
  unfold State.reportTo; dsimp only; (repeat' split) <;> simp
@[simp] theorem State.reportTo_straps (v : Int) (s : State) (j : Fin 8) :
    (State.reportTo v s j).straps = s.straps := by
  unfold State.reportTo; dsimp only; (repeat' split) <;> simp
@[simp] theorem State.reportTo_channel (v : Int) (s : State) (j : Fin 8) :
    (State.reportTo v s j).channel = s.channel := by
  unfold State.reportTo; dsimp only; (repeat' split) <;> simp
@[simp] theorem State.reportTo_restart (v : Int) (s : State) (j : Fin 8) :
    (State.reportTo v s j).restart = s.restart := by
  unfold State.reportTo; dsimp only; (repeat' split) <;> simp
@[simp] theorem State.reportTo_replyWait (v : Int) (s : State) (j : Fin 8) :
    (State.reportTo v s j).replyWait = s.replyWait := by
  unfold State.reportTo; dsimp only; (repeat' split) <;> simp
@[simp] theorem State.reportTo_pending (v : Int) (s : State) (j : Fin 8) :
    (State.reportTo v s j).pending = s.pending := by
  unfold State.reportTo; dsimp only; (repeat' split) <;> simp

@[simp] theorem State.takeRudReport_station (p : Port) (ch : Nat) (data : List Byte) (s : State) :
    (s.takeRudReport p ch data).station = s.station := by
  exact foldl_field (State.station) (fun s j => State.reportTo_station _ s j) _ s
@[simp] theorem State.takeRudReport_prop (p : Port) (ch : Nat) (data : List Byte) (s : State) :
    (s.takeRudReport p ch data).prop = s.prop := by
  exact foldl_field (State.prop) (fun s j => State.reportTo_prop _ s j) _ s
@[simp] theorem State.takeRudReport_fuel (p : Port) (ch : Nat) (data : List Byte) (s : State) :
    (s.takeRudReport p ch data).fuel = s.fuel := by
  exact foldl_field (State.fuel) (fun s j => State.reportTo_fuel _ s j) _ s
@[simp] theorem State.takeRudReport_mgmt (p : Port) (ch : Nat) (data : List Byte) (s : State) :
    (s.takeRudReport p ch data).mgmt = s.mgmt := by
  exact foldl_field (State.mgmt) (fun s j => State.reportTo_mgmt _ s j) _ s
@[simp] theorem State.takeRudReport_params (p : Port) (ch : Nat) (data : List Byte) (s : State) :
    (s.takeRudReport p ch data).params = s.params := by
  exact foldl_field (State.params) (fun s j => State.reportTo_params _ s j) _ s
@[simp] theorem State.takeRudReport_straps (p : Port) (ch : Nat) (data : List Byte) (s : State) :
    (s.takeRudReport p ch data).straps = s.straps := by
  exact foldl_field (State.straps) (fun s j => State.reportTo_straps _ s j) _ s
@[simp] theorem State.takeRudReport_channel (p : Port) (ch : Nat) (data : List Byte) (s : State) :
    (s.takeRudReport p ch data).channel = s.channel := by
  exact foldl_field (State.channel) (fun s j => State.reportTo_channel _ s j) _ s
@[simp] theorem State.takeRudReport_restart (p : Port) (ch : Nat) (data : List Byte) (s : State) :
    (s.takeRudReport p ch data).restart = s.restart := by
  exact foldl_field (State.restart) (fun s j => State.reportTo_restart _ s j) _ s
@[simp] theorem State.takeRudReport_replyWait (p : Port) (ch : Nat) (data : List Byte) (s : State) :
    (s.takeRudReport p ch data).replyWait = s.replyWait := by
  exact foldl_field (State.replyWait) (fun s j => State.reportTo_replyWait _ s j) _ s
@[simp] theorem State.takeRudReport_pending (p : Port) (ch : Nat) (data : List Byte) (s : State) :
    (s.takeRudReport p ch data).pending = s.pending := by
  exact foldl_field (State.pending) (fun s j => State.reportTo_pending _ s j) _ s

@[simp] theorem State.steeringExpiry_station (s : State) :
    (s.steeringExpiry).station = s.station := by
  exact foldl_field (State.station) (fun s j => State.steerActuator_station _ _ s j) _ _
@[simp] theorem State.steeringExpiry_prop (s : State) :
    (s.steeringExpiry).prop = s.prop := by
  exact foldl_field (State.prop) (fun s j => State.steerActuator_prop _ _ s j) _ _
@[simp] theorem State.steeringExpiry_fuel (s : State) :
    (s.steeringExpiry).fuel = s.fuel := by
  exact foldl_field (State.fuel) (fun s j => State.steerActuator_fuel _ _ s j) _ _
@[simp] theorem State.steeringExpiry_mgmt (s : State) :
    (s.steeringExpiry).mgmt = s.mgmt := by
  exact foldl_field (State.mgmt) (fun s j => State.steerActuator_mgmt _ _ s j) _ _
@[simp] theorem State.steeringExpiry_params (s : State) :
    (s.steeringExpiry).params = s.params := by
  exact foldl_field (State.params) (fun s j => State.steerActuator_params _ _ s j) _ _
@[simp] theorem State.steeringExpiry_straps (s : State) :
    (s.steeringExpiry).straps = s.straps := by
  exact foldl_field (State.straps) (fun s j => State.steerActuator_straps _ _ s j) _ _
@[simp] theorem State.steeringExpiry_channel (s : State) :
    (s.steeringExpiry).channel = s.channel := by
  exact foldl_field (State.channel) (fun s j => State.steerActuator_channel _ _ s j) _ _
@[simp] theorem State.steeringExpiry_restart (s : State) :
    (s.steeringExpiry).restart = s.restart := by
  exact foldl_field (State.restart) (fun s j => State.steerActuator_restart _ _ s j) _ _
@[simp] theorem State.steeringExpiry_replyWait (s : State) :
    (s.steeringExpiry).replyWait = s.replyWait := by
  exact foldl_field (State.replyWait) (fun s j => State.steerActuator_replyWait _ _ s j) _ _
@[simp] theorem State.steeringExpiry_pending (s : State) :
    (s.steeringExpiry).pending = s.pending := by
  exact foldl_field (State.pending) (fun s j => State.steerActuator_pending _ _ s j) _ _

@[simp] theorem State.passOne_station (level elapsed : Nat) (s : State) (e : Fin 4) :
    (s.passOne level elapsed e).station = s.station := by
  unfold State.passOne; dsimp only; split <;> simp
@[simp] theorem State.passOne_fuel (level elapsed : Nat) (s : State) (e : Fin 4) :
    (s.passOne level elapsed e).fuel = s.fuel := by
  unfold State.passOne; dsimp only; split <;> simp
@[simp] theorem State.passOne_mgmt (level elapsed : Nat) (s : State) (e : Fin 4) :
    (s.passOne level elapsed e).mgmt = s.mgmt := by
  unfold State.passOne; dsimp only; split <;> simp
@[simp] theorem State.passOne_params (level elapsed : Nat) (s : State) (e : Fin 4) :
    (s.passOne level elapsed e).params = s.params := by
  unfold State.passOne; dsimp only; split <;> simp
@[simp] theorem State.passOne_straps (level elapsed : Nat) (s : State) (e : Fin 4) :
    (s.passOne level elapsed e).straps = s.straps := by
  unfold State.passOne; dsimp only; split <;> simp
@[simp] theorem State.passOne_channel (level elapsed : Nat) (s : State) (e : Fin 4) :
    (s.passOne level elapsed e).channel = s.channel := by
  unfold State.passOne; dsimp only; split <;> simp
@[simp] theorem State.passOne_restart (level elapsed : Nat) (s : State) (e : Fin 4) :
    (s.passOne level elapsed e).restart = s.restart := by
  unfold State.passOne; dsimp only; split <;> simp
@[simp] theorem State.passOne_replyWait (level elapsed : Nat) (s : State) (e : Fin 4) :
    (s.passOne level elapsed e).replyWait = s.replyWait := by
  unfold State.passOne; dsimp only; split <;> simp
@[simp] theorem State.passOne_pending (level elapsed : Nat) (s : State) (e : Fin 4) :
    (s.passOne level elapsed e).pending = s.pending := by
  unfold State.passOne; dsimp only; split <;> simp

@[simp] theorem State.passThree_station (s : State) (e : Fin 4) :
    (s.passThree e).station = s.station := by
  unfold State.passThree; dsimp only; split <;> simp
@[simp] theorem State.passThree_steer (s : State) (e : Fin 4) :
    (s.passThree e).steer = s.steer := by
  unfold State.passThree; dsimp only; split <;> simp
@[simp] theorem State.passThree_coup (s : State) (e : Fin 4) :
    (s.passThree e).coup = s.coup := by
  unfold State.passThree; dsimp only; split <;> simp
@[simp] theorem State.passThree_fuel (s : State) (e : Fin 4) :
    (s.passThree e).fuel = s.fuel := by
  unfold State.passThree; dsimp only; split <;> simp
@[simp] theorem State.passThree_mgmt (s : State) (e : Fin 4) :
    (s.passThree e).mgmt = s.mgmt := by
  unfold State.passThree; dsimp only; split <;> simp
@[simp] theorem State.passThree_params (s : State) (e : Fin 4) :
    (s.passThree e).params = s.params := by
  unfold State.passThree; dsimp only; split <;> simp
@[simp] theorem State.passThree_straps (s : State) (e : Fin 4) :
    (s.passThree e).straps = s.straps := by
  unfold State.passThree; dsimp only; split <;> simp
@[simp] theorem State.passThree_channel (s : State) (e : Fin 4) :
    (s.passThree e).channel = s.channel := by
  unfold State.passThree; dsimp only; split <;> simp
@[simp] theorem State.passThree_restart (s : State) (e : Fin 4) :
    (s.passThree e).restart = s.restart := by
  unfold State.passThree; dsimp only; split <;> simp
@[simp] theorem State.passThree_replyWait (s : State) (e : Fin 4) :
    (s.passThree e).replyWait = s.replyWait := by
  unfold State.passThree; dsimp only; split <;> simp
@[simp] theorem State.passThree_pending (s : State) (e : Fin 4) :
    (s.passThree e).pending = s.pending := by
  unfold State.passThree; dsimp only; split <;> simp

@[simp] theorem State.rampExpiry_station (s : State) :
    (s.rampExpiry).station = s.station := by
  exact (foldl_field (State.station) (fun s e => State.passThree_station s e) _ _).trans
    (((State.syncTest_station 2 _).trans (State.syncTest_station 1 _)).trans
      (foldl_field (State.station) (fun s e => State.passOne_station _ _ s e) _ _))
@[simp] theorem State.rampExpiry_fuel (s : State) :
    (s.rampExpiry).fuel = s.fuel := by
  exact (foldl_field (State.fuel) (fun s e => State.passThree_fuel s e) _ _).trans
    (((State.syncTest_fuel 2 _).trans (State.syncTest_fuel 1 _)).trans
      (foldl_field (State.fuel) (fun s e => State.passOne_fuel _ _ s e) _ _))
@[simp] theorem State.rampExpiry_mgmt (s : State) :
    (s.rampExpiry).mgmt = s.mgmt := by
  exact (foldl_field (State.mgmt) (fun s e => State.passThree_mgmt s e) _ _).trans
    (((State.syncTest_mgmt 2 _).trans (State.syncTest_mgmt 1 _)).trans
      (foldl_field (State.mgmt) (fun s e => State.passOne_mgmt _ _ s e) _ _))
@[simp] theorem State.rampExpiry_params (s : State) :
    (s.rampExpiry).params = s.params := by
  exact (foldl_field (State.params) (fun s e => State.passThree_params s e) _ _).trans
    (((State.syncTest_params 2 _).trans (State.syncTest_params 1 _)).trans
      (foldl_field (State.params) (fun s e => State.passOne_params _ _ s e) _ _))
@[simp] theorem State.rampExpiry_straps (s : State) :
    (s.rampExpiry).straps = s.straps := by
  exact (foldl_field (State.straps) (fun s e => State.passThree_straps s e) _ _).trans
    (((State.syncTest_straps 2 _).trans (State.syncTest_straps 1 _)).trans
      (foldl_field (State.straps) (fun s e => State.passOne_straps _ _ s e) _ _))
@[simp] theorem State.rampExpiry_channel (s : State) :
    (s.rampExpiry).channel = s.channel := by
  exact (foldl_field (State.channel) (fun s e => State.passThree_channel s e) _ _).trans
    (((State.syncTest_channel 2 _).trans (State.syncTest_channel 1 _)).trans
      (foldl_field (State.channel) (fun s e => State.passOne_channel _ _ s e) _ _))
@[simp] theorem State.rampExpiry_restart (s : State) :
    (s.rampExpiry).restart = s.restart := by
  exact (foldl_field (State.restart) (fun s e => State.passThree_restart s e) _ _).trans
    (((State.syncTest_restart 2 _).trans (State.syncTest_restart 1 _)).trans
      (foldl_field (State.restart) (fun s e => State.passOne_restart _ _ s e) _ _))
@[simp] theorem State.rampExpiry_replyWait (s : State) :
    (s.rampExpiry).replyWait = s.replyWait := by
  exact (foldl_field (State.replyWait) (fun s e => State.passThree_replyWait s e) _ _).trans
    (((State.syncTest_replyWait 2 _).trans (State.syncTest_replyWait 1 _)).trans
      (foldl_field (State.replyWait) (fun s e => State.passOne_replyWait _ _ s e) _ _))
@[simp] theorem State.rampExpiry_pending (s : State) :
    (s.rampExpiry).pending = s.pending := by
  exact (foldl_field (State.pending) (fun s e => State.passThree_pending s e) _ _).trans
    (((State.syncTest_pending 2 _).trans (State.syncTest_pending 1 _)).trans
      (foldl_field (State.pending) (fun s e => State.passOne_pending _ _ s e) _ _))

@[simp] theorem State.takeGovReport_comms (ch : Nat) (data : List Byte) (s : State) :
    (s.takeGovReport ch data).comms = s.comms := by
  exact (foldl_field (State.comms) (fun s e => State.trimStep_comms e s) _ _).trans
    (foldl_field (State.comms) (fun s e => State.onChannel_comms e _ s) _ _)
@[simp] theorem State.takeGovReport_station (ch : Nat) (data : List Byte) (s : State) :
    (s.takeGovReport ch data).station = s.station := by
  exact (foldl_field (State.station) (fun s e => State.trimStep_station e s) _ _).trans
    (foldl_field (State.station) (fun s e => State.onChannel_station e _ s) _ _)
@[simp] theorem State.takeGovReport_steer (ch : Nat) (data : List Byte) (s : State) :
    (s.takeGovReport ch data).steer = s.steer := by
  exact (foldl_field (State.steer) (fun s e => State.trimStep_steer e s) _ _).trans
    (foldl_field (State.steer) (fun s e => State.onChannel_steer e _ s) _ _)
@[simp] theorem State.takeGovReport_coup (ch : Nat) (data : List Byte) (s : State) :
    (s.takeGovReport ch data).coup = s.coup := by
  exact (foldl_field (State.coup) (fun s e => State.trimStep_coup e s) _ _).trans
    (foldl_field (State.coup) (fun s e => State.onChannel_coup e _ s) _ _)
@[simp] theorem State.takeGovReport_fuel (ch : Nat) (data : List Byte) (s : State) :
    (s.takeGovReport ch data).fuel = s.fuel := by
  exact (foldl_field (State.fuel) (fun s e => State.trimStep_fuel e s) _ _).trans
    (foldl_field (State.fuel) (fun s e => State.onChannel_fuel e _ s) _ _)
@[simp] theorem State.takeGovReport_mgmt (ch : Nat) (data : List Byte) (s : State) :
    (s.takeGovReport ch data).mgmt = s.mgmt := by
  exact (foldl_field (State.mgmt) (fun s e => State.trimStep_mgmt e s) _ _).trans
    (foldl_field (State.mgmt) (fun s e => State.onChannel_mgmt e _ s) _ _)
@[simp] theorem State.takeGovReport_params (ch : Nat) (data : List Byte) (s : State) :
    (s.takeGovReport ch data).params = s.params := by
  exact (foldl_field (State.params) (fun s e => State.trimStep_params e s) _ _).trans
    (foldl_field (State.params) (fun s e => State.onChannel_params e _ s) _ _)
@[simp] theorem State.takeGovReport_straps (ch : Nat) (data : List Byte) (s : State) :
    (s.takeGovReport ch data).straps = s.straps := by
  exact (foldl_field (State.straps) (fun s e => State.trimStep_straps e s) _ _).trans
    (foldl_field (State.straps) (fun s e => State.onChannel_straps e _ s) _ _)
@[simp] theorem State.takeGovReport_channel (ch : Nat) (data : List Byte) (s : State) :
    (s.takeGovReport ch data).channel = s.channel := by
  exact (foldl_field (State.channel) (fun s e => State.trimStep_channel e s) _ _).trans
    (foldl_field (State.channel) (fun s e => State.onChannel_channel e _ s) _ _)
@[simp] theorem State.takeGovReport_restart (ch : Nat) (data : List Byte) (s : State) :
    (s.takeGovReport ch data).restart = s.restart := by
  exact (foldl_field (State.restart) (fun s e => State.trimStep_restart e s) _ _).trans
    (foldl_field (State.restart) (fun s e => State.onChannel_restart e _ s) _ _)
@[simp] theorem State.takeGovReport_replyWait (ch : Nat) (data : List Byte) (s : State) :
    (s.takeGovReport ch data).replyWait = s.replyWait := by
  exact (foldl_field (State.replyWait) (fun s e => State.trimStep_replyWait e s) _ _).trans
    (foldl_field (State.replyWait) (fun s e => State.onChannel_replyWait e _ s) _ _)
@[simp] theorem State.takeGovReport_pending (ch : Nat) (data : List Byte) (s : State) :
    (s.takeGovReport ch data).pending = s.pending := by
  exact (foldl_field (State.pending) (fun s e => State.trimStep_pending e s) _ _).trans
    (foldl_field (State.pending) (fun s e => State.onChannel_pending e _ s) _ _)

@[simp] theorem State.pollExpiry_station (s : State) :
    (s.pollExpiry).station = s.station := by
  unfold State.pollExpiry; dsimp only; split <;> simp
@[simp] theorem State.pollExpiry_prop (s : State) :
    (s.pollExpiry).prop = s.prop := by
  unfold State.pollExpiry; dsimp only; split <;> simp
@[simp] theorem State.pollExpiry_fuel (s : State) :
    (s.pollExpiry).fuel = s.fuel := by
  unfold State.pollExpiry; dsimp only; split <;> simp
@[simp] theorem State.pollExpiry_mgmt (s : State) :
    (s.pollExpiry).mgmt = s.mgmt := by
  unfold State.pollExpiry; dsimp only; split <;> simp
@[simp] theorem State.pollExpiry_params (s : State) :
    (s.pollExpiry).params = s.params := by
  unfold State.pollExpiry; dsimp only; split <;> simp
@[simp] theorem State.pollExpiry_straps (s : State) :
    (s.pollExpiry).straps = s.straps := by
  unfold State.pollExpiry; dsimp only; split <;> simp
@[simp] theorem State.pollExpiry_channel (s : State) :
    (s.pollExpiry).channel = s.channel := by
  unfold State.pollExpiry; dsimp only; split <;> simp
@[simp] theorem State.pollExpiry_restart (s : State) :
    (s.pollExpiry).restart = s.restart := by
  unfold State.pollExpiry; dsimp only; split <;> simp
@[simp] theorem State.pollExpiry_replyWait (s : State) :
    (s.pollExpiry).replyWait = s.replyWait := by
  unfold State.pollExpiry; dsimp only; split <;> simp
@[simp] theorem State.pollExpiry_pending (s : State) :
    (s.pollExpiry).pending = s.pending := by
  unfold State.pollExpiry; dsimp only; split <;> simp

end Sys2Proof.Machine
end

