-- ==== Sys2Proof/Laws/Ports.lean ====
section
/-! SUPPORT. What each operation on a port unit can do: the arbiter (R16, R17), joining, withdrawing, sending and losing
(R11 to R14, R19, R20). -/

namespace Sys2Proof.Machine

/-! ### The three ports -/

@[simp] theorem Comms.setPort_port (p q : Port) (u : PortUnit) (c : Comms) :
    (c.setPort p u).port q = if q = p then u else c.port q := by
  cases p <;> cases q <;> rfl

@[simp] theorem Comms.setPort_notices (p : Port) (u : PortUnit) (c : Comms) :
    (c.setPort p u).notices = c.notices := by
  cases p <;> rfl

/-! ### The arbiter -/

/-- A port that is DOWN, busy or without frames gets no grant (R16). -/
theorem PortUnit.grant_none (e : Env) (p : PortUnit)
    (h : ¬(p.link = .up ∧ p.inFlight = none ∧ p.holdsFrame = true)) : p.grant e = p := by
  simp only [PortUnit.grant, if_neg h]

/-- A grant on an idle UP port that holds a frame goes to the chosen class (R16). -/
theorem PortUnit.grant_some (e : Env) (p : PortUnit)
    (h : p.link = .up ∧ p.inFlight = none ∧ p.holdsFrame = true) : p.grant e = p.granted (p.chosen e) := by
  simp only [PortUnit.grant, if_pos h]

@[simp] theorem PortUnit.granted_inFlight (c : QueueClass) (p : PortUnit) : (p.granted c).inFlight = some c := by
  cases c <;> rfl

@[simp] theorem PortUnit.granted_urgent (c : QueueClass) (p : PortUnit) : (p.granted c).urgent = p.urgent := by
  cases c <;> rfl

@[simp] theorem PortUnit.granted_routine (c : QueueClass) (p : PortUnit) : (p.granted c).routine = p.routine := by
  cases c <;> rfl

@[simp] theorem PortUnit.granted_bulk (c : QueueClass) (p : PortUnit) : (p.granted c).bulk = p.bulk := by
  cases c <;> rfl

@[simp] theorem PortUnit.granted_link (c : QueueClass) (p : PortUnit) : (p.granted c).link = p.link := by
  cases c <;> rfl

@[simp] theorem PortUnit.granted_malformed (c : QueueClass) (p : PortUnit) :
    (p.granted c).malformed = p.malformed := by
  cases c <;> rfl

@[simp] theorem PortUnit.granted_frameLoss (c : QueueClass) (p : PortUnit) :
    (p.granted c).frameLoss = p.frameLoss := by
  cases c <;> rfl

@[simp] theorem PortUnit.granted_bitRate (c : QueueClass) (p : PortUnit) : (p.granted c).bitRate = p.bitRate := by
  cases c <;> rfl

@[simp] theorem PortUnit.grant_urgent (e : Env) (p : PortUnit) : (p.grant e).urgent = p.urgent := by
  unfold PortUnit.grant; split <;> simp

@[simp] theorem PortUnit.grant_routine (e : Env) (p : PortUnit) : (p.grant e).routine = p.routine := by
  unfold PortUnit.grant; split <;> simp

@[simp] theorem PortUnit.grant_bulk (e : Env) (p : PortUnit) : (p.grant e).bulk = p.bulk := by
  unfold PortUnit.grant; split <;> simp

@[simp] theorem PortUnit.grant_link (e : Env) (p : PortUnit) : (p.grant e).link = p.link := by
  unfold PortUnit.grant; split <;> simp

@[simp] theorem PortUnit.grant_malformed (e : Env) (p : PortUnit) : (p.grant e).malformed = p.malformed := by
  unfold PortUnit.grant; split <;> simp

@[simp] theorem PortUnit.grant_frameLoss (e : Env) (p : PortUnit) : (p.grant e).frameLoss = p.frameLoss := by
  unfold PortUnit.grant; split <;> simp

@[simp] theorem PortUnit.grant_bitRate (e : Env) (p : PortUnit) : (p.grant e).bitRate = p.bitRate := by
  unfold PortUnit.grant; split <;> simp

/-- The class chosen for an idle port that holds a frame has a frame at its head (R17). -/
theorem PortUnit.chosen_holds (e : Env) (p : PortUnit) (h : p.holdsFrame = true) :
    (p.chosen e = .urgent → p.urgent ≠ []) ∧ (p.chosen e = .routine → p.routine ≠ []) ∧
      (p.chosen e = .bulk → p.bulk ≠ []) := by
  unfold PortUnit.chosen PortUnit.holdsFrame at *
  cases hu : p.urgent <;> cases hr : p.routine <;> cases hb : p.bulk <;> simp_all <;> split_ifs <;> simp_all

/-! ### Joining -/

/-- What an offer to ROUTINE or BULK can do (R11, R21). -/
theorem PortUnit.joinLow_cases (e : Env) (c : LowClass) (f : Frame) (p : PortUnit) :
    (p.link = .up ∧ (p.lowQueue c).length < lowCap c ∧ p.joinLow e c f = some ((p.pushLow c f).grant e)) ∨
    (¬(p.link = .up ∧ (p.lowQueue c).length < lowCap c) ∧ p.joinLow e c f = none) := by
  unfold PortUnit.joinLow
  split
  · rename_i h; exact .inl ⟨h.1, h.2, rfl⟩
  · rename_i h; exact .inr ⟨h, rfl⟩

/-- What an offer to URGENT can do (R12, R13, R21). -/
theorem PortUnit.joinUrgent_cases (e : Env) (f : Frame) (p : PortUnit) :
    (p.urgentWaiting.any (fun g => keyOf g = keyOf f) = true ∧
      p.joinUrgent e f = some { p with urgent := p.urgentInFlight ++ replaceKey f p.urgentWaiting }) ∨
    (p.urgentWaiting.any (fun g => keyOf g = keyOf f) = false ∧ p.urgent.length < Config.urgentCap ∧
      p.joinUrgent e f = some (({ p with urgent := p.urgent ++ [f] } : PortUnit).grant e)) ∨
    (p.urgentWaiting.any (fun g => keyOf g = keyOf f) = false ∧ Config.urgentCap ≤ p.urgent.length ∧
      p.joinUrgent e f = none) := by
  unfold PortUnit.joinUrgent
  split
  · rename_i h; exact .inl ⟨h, rfl⟩
  · rename_i h
    split
    · rename_i h2; exact .inr (.inl ⟨by simpa using h, h2, rfl⟩)
    · rename_i h2; exact .inr (.inr ⟨by simpa using h, by omega, rfl⟩)

/-- The frame in flight and the waiting frames make up URGENT (R12). -/
theorem PortUnit.urgent_split (p : PortUnit) : p.urgentInFlight ++ p.urgentWaiting = p.urgent := by
  unfold PortUnit.urgentInFlight PortUnit.urgentWaiting
  split
  · exact List.take_append_drop 1 p.urgent
  · rfl

/-- A replacement keeps the number of frames and every key (R13). -/
theorem replaceKey_keys (f : Frame) (l : List Frame) : (replaceKey f l).map keyOf = l.map keyOf := by
  unfold replaceKey
  rw [List.map_map]
  apply List.map_congr_left
  intro g _
  simp only [Function.comp]
  split
  · rename_i h; exact h.symm
  · rfl

@[simp] theorem replaceKey_length (f : Frame) (l : List Frame) : (replaceKey f l).length = l.length := by
  simp [replaceKey]

/-! ### Sending and losing -/

/-- What the end of a transmission leaves (R19). -/
theorem PortUnit.sent_cases (p : PortUnit) :
    (p.inFlight = none ∧ p.sent = p) ∨
    (p.inFlight = some .urgent ∧ p.sent = { p with urgent := p.urgent.drop 1, inFlight := none }) ∨
    (p.inFlight = some .routine ∧ p.sent = { p with routine := p.routine.drop 1, inFlight := none }) ∨
    (p.inFlight = some .bulk ∧ p.sent = { p with bulk := p.bulk.drop 1, inFlight := none }) := by
  unfold PortUnit.sent
  split <;> simp_all

@[simp] theorem PortUnit.countLoss_frameLoss (p : PortUnit) :
    p.countLoss.frameLoss = satAdd Config.counterMax p.frameLoss 1 := rfl

@[simp] theorem PortUnit.countMalformed_malformed (p : PortUnit) :
    p.countMalformed.malformed = satAdd Config.counterMax p.malformed 1 := rfl

end Sys2Proof.Machine
end

