-- ==== Sys2Proof/Laws/Vectors.lean ====
section
/-! SUPPORT. Reading a vector of records after one entry, or every entry, has been replaced. -/

namespace Sys2Proof.Machine

/-- What position `k` reads after entry `i` has been replaced. -/
@[simp] theorem put_getElem {α : Type} {n : Nat} (v : Vector α n) (i : Fin n) (x : α) (k : Nat) (h : k < n) :
    (put v i x)[k] = if i.val = k then x else v[k] := by
  simp only [put, Vector.getElem_set]

/-- What position `k` reads after every entry has been replaced. -/
@[simp] theorem remap_getElem {α β : Type} {n : Nat} (v : Vector α n) (f : Fin n → α → β) (k : Nat) (h : k < n) :
    (remap v f)[k] = f ⟨k, h⟩ v[k] := by
  simp [remap]

/-- What entry `j` reads after entry `i` has been replaced. -/
theorem put_get {α : Type} {n : Nat} (v : Vector α n) (i j : Fin n) (x : α) :
    (put v i x)[j] = if i = j then x else v[j] := by
  simp only [Fin.getElem_fin, put_getElem, Fin.ext_iff]

theorem put_get_same {α : Type} {n : Nat} (v : Vector α n) (i : Fin n) (x : α) : (put v i x)[i] = x := by
  rw [put_get, if_pos rfl]

theorem put_get_other {α : Type} {n : Nat} (v : Vector α n) {i j : Fin n} (h : i ≠ j) (x : α) :
    (put v i x)[j] = v[j] := by
  rw [put_get, if_neg h]

theorem remap_get {α β : Type} {n : Nat} (v : Vector α n) (f : Fin n → α → β) (i : Fin n) :
    (remap v f)[i] = f i v[i] := by
  simp only [Fin.getElem_fin, remap_getElem]

/-- Storing what an entry already holds changes nothing. -/
theorem put_get_id {α : Type} {n : Nat} (v : Vector α n) (i : Fin n) : put v i v[i] = v := by
  simp [put]

/-- Two vectors that read the same at every index are equal. -/
theorem vector_ext {α : Type} {n : Nat} {v w : Vector α n} (h : ∀ i : Fin n, v[i] = w[i]) : v = w := by
  ext i hi
  exact h ⟨i, hi⟩

end Sys2Proof.Machine
end

