-- ==== Sys2Proof/Laws/Notices.lean ====
section
/-! SUPPORT. What raising a notice and offering a frame can do to the ports and the notice unit (R11, R12, R196), and a
principle for properties of the ports that every such operation keeps. -/

namespace Sys2Proof.Machine

/-- What `Comms.joinLow` answers: the port unit's own answer, stored (R11). -/
theorem Comms.joinLow_cases (e : Env) (p : Port) (k : LowClass) (f : Frame) (c : Comms) :
    (∃ u, (c.port p).joinLow e k f = some u ∧ c.joinLow e p k f = some (c.setPort p u)) ∨
    ((c.port p).joinLow e k f = none ∧ c.joinLow e p k f = none) := by
  unfold Comms.joinLow
  cases h : (c.port p).joinLow e k f with
  | none => exact .inr ⟨rfl, rfl⟩
  | some u => exact .inl ⟨u, rfl, rfl⟩

/-- What a raise can do: the flag and last index alone; a NOTICE that joins; or one that W refuses (R196). -/
theorem Comms.raise_cases (e : Env) (k : NoticeKind) (i : Nat) (c : Comms) :
    (c.tells e k = false ∧ c.raise e k i = c.record k i) ∨
    (c.tells e k = true ∧ ∃ u, (c.port .w).joinLow e .bulk (noticeFrame e k i) = some u ∧
      c.raise e k i = (c.record k i).setPort .w u) ∨
    (c.tells e k = true ∧ (c.port .w).joinLow e .bulk (noticeFrame e k i) = none ∧
      c.raise e k i = (c.record k i).discard e .w) := by
  unfold Comms.raise
  cases ht : c.tells e k with
  | false => exact .inl ⟨rfl, rfl⟩
  | true =>
    have hp : (c.record k i).port .w = c.port .w := rfl
    rcases Comms.joinLow_cases e .w .bulk (noticeFrame e k i) (c.record k i) with ⟨u, hu, hj⟩ | ⟨hn, hj⟩
    · exact .inr (.inl ⟨rfl, u, hp ▸ hu, by simp [hj]⟩)
    · exact .inr (.inr ⟨rfl, hp ▸ hn, by simp [hj]⟩)

/-- What an offer to ROUTINE or BULK can do (R11). -/
theorem Comms.offerLow_cases (e : Env) (p : Port) (k : LowClass) (f : Frame) (c : Comms) :
    (∃ u, (c.port p).joinLow e k f = some u ∧ c.offerLow e p k f = c.setPort p u) ∨
    ((c.port p).joinLow e k f = none ∧ c.offerLow e p k f = c.discard e p) := by
  unfold Comms.offerLow
  rcases Comms.joinLow_cases e p k f c with ⟨u, hu, hj⟩ | ⟨hn, hj⟩
  · exact .inl ⟨u, hu, by simp [hj]⟩
  · exact .inr ⟨hn, by simp [hj]⟩

/-- What an offer to URGENT can do (R12). -/
theorem Comms.offerUrgent_cases (e : Env) (p : Port) (f : Frame) (c : Comms) :
    (∃ u, (c.port p).joinUrgent e f = some u ∧ c.offerUrgent e p f = c.setPort p u) ∨
    ((c.port p).joinUrgent e f = none ∧ c.offerUrgent e p f = c.discard e p) := by
  unfold Comms.offerUrgent
  cases h : (c.port p).joinUrgent e f with
  | none => exact .inr ⟨rfl, rfl⟩
  | some u => exact .inl ⟨u, rfl, rfl⟩

/-- A raise of FRAME_LOSS for a port is the general raise of that kind. -/
theorem Comms.raiseFrameLoss_eq_raise (e : Env) (p : Port) (c : Comms) :
    c.raiseFrameLoss e p = c.raise e .frameLoss (portNum p) := by
  have ht (d : Comms) : ((d.record .frameLoss (portNum p)).countLoss .w).tells e .frameLoss = false := by
    simp [Comms.tells, Comms.notice, Comms.record, Comms.countLoss]
  have hd (d : Comms) : (d.record .frameLoss (portNum p)).discard e .w
      = ((d.record .frameLoss (portNum p)).countLoss .w).record .frameLoss 0 := by
    rw [Comms.discard, Comms.raiseFrameLoss]
    simp only [ht d]
    rfl
  rw [Comms.raiseFrameLoss, Comms.raise]
  simp only [hd]

/-- A property of the ports and notices that setting a notice, joining a queue and counting a loss keep is kept by
every raise and offer. -/
structure Comms.Closed (e : Env) (P : Comms → Prop) : Prop where
  record : ∀ c k i, P c → P (c.record k i)
  loss : ∀ c p, P c → P (c.countLoss p)
  low : ∀ c p k f u, P c → (c.port p).joinLow e k f = some u → P (c.setPort p u)
  urgent : ∀ c p f u, P c → (c.port p).joinUrgent e f = some u → P (c.setPort p u)

theorem Comms.Closed.raiseFrameLoss {e : Env} {P : Comms → Prop} (h : Comms.Closed e P) {c : Comms} (p : Port)
    (hc : P c) : P (c.raiseFrameLoss e p) := by
  unfold Comms.raiseFrameLoss
  have hr := h.record c .frameLoss (portNum p) hc
  split
  · rcases Comms.joinLow_cases e .w .bulk (noticeFrame e .frameLoss (portNum p)) (c.record .frameLoss (portNum p))
      with ⟨u, hu, hj⟩ | ⟨_, hj⟩
    · simp only [hj]; exact h.low _ _ _ _ _ hr hu
    · simp only [hj]; exact h.record _ _ _ (h.loss _ _ hr)
  · exact hr

theorem Comms.Closed.discard {e : Env} {P : Comms → Prop} (h : Comms.Closed e P) {c : Comms} (p : Port)
    (hc : P c) : P (c.discard e p) := h.raiseFrameLoss p (h.loss c p hc)

theorem Comms.Closed.raise {e : Env} {P : Comms → Prop} (h : Comms.Closed e P) {c : Comms} (k : NoticeKind)
    (i : Nat) (hc : P c) : P (c.raise e k i) := by
  have hr := h.record c k i hc
  rcases Comms.raise_cases e k i c with ⟨_, hj⟩ | ⟨_, u, hu, hj⟩ | ⟨_, _, hj⟩
  · rw [hj]; exact hr
  · rw [hj]; exact h.low _ .w .bulk _ u hr hu
  · rw [hj]; exact h.discard .w hr

theorem Comms.Closed.offerLow {e : Env} {P : Comms → Prop} (h : Comms.Closed e P) {c : Comms} (p : Port)
    (k : LowClass) (f : Frame) (hc : P c) : P (c.offerLow e p k f) := by
  rcases Comms.offerLow_cases e p k f c with ⟨u, hu, hj⟩ | ⟨_, hj⟩
  · rw [hj]; exact h.low _ _ _ _ _ hc hu
  · rw [hj]; exact h.discard p hc

theorem Comms.Closed.offerUrgent {e : Env} {P : Comms → Prop} (h : Comms.Closed e P) {c : Comms} (p : Port)
    (f : Frame) (hc : P c) : P (c.offerUrgent e p f) := by
  rcases Comms.offerUrgent_cases e p f c with ⟨u, hu, hj⟩ | ⟨_, hj⟩
  · rw [hj]; exact h.urgent _ _ _ _ hc hu
  · rw [hj]; exact h.discard p hc

end Sys2Proof.Machine
end

