-- ==== Sys2Proof/Laws/Events.lean ====
section
/-! SUPPORT. What an event does around its rule: a management command (R193), a received frame (R4, R7), a station frame
(R26, R27), a told interlock condition (R139). -/

namespace Sys2Proof.Machine

/-! ### Listening -/

/-- A part that hears a port is not deaf on it. -/
theorem State.hears_deaf {s : State} {p : Port} (h : s.hears p) : s.deaf p = false := by
  simp [State.deaf, h.1, h.2]

/-- A part that does not hear a port is deaf on it. -/
theorem State.deaf_of_not_hears {s : State} {p : Port} (h : ¬s.hears p) : s.deaf p = true := by
  unfold State.hears at h
  unfold State.deaf
  cases hr : s.restart <;> cases hl : (s.comms.port p).link <;> simp_all

/-! ### Management commands -/

/-- A command taken: carried out, then answered (R193). -/
theorem State.managed_taken (tag : Byte) (body : State → Answer) {s : State} (h : s.listens) :
    s.managed tag body = (body s).state.offerLow .w .bulk
      (replyFrame s.channel tag (body s).status (body s).results) := by
  unfold State.managed
  rw [h.1, h.2]
  rfl

/-- A command not taken changes nothing (R198, R199). -/
theorem State.managed_discarded (tag : Byte) (body : State → Answer) {s : State} (h : ¬s.listens) :
    s.managed tag body = s := by
  unfold State.listens at h
  unfold State.managed
  cases hr : s.restart <;> cases hw : s.replyWait <;> simp_all

/-- Long enough arguments reach the rule (R193). -/
theorem State.needs_met {n : Nat} {args : List Byte} (s : State) (a : Answer) (h : n ≤ args.length) :
    s.needs n args a = a := by
  unfold State.needs
  rw [if_neg (by omega)]

/-- Short arguments answer BAD_VALUE (R193). -/
theorem State.needs_short {n : Nat} {args : List Byte} (s : State) (a : Answer) (h : args.length < n) :
    s.needs n args a = s.says .badValue [] := by
  unfold State.needs
  rw [if_pos h]

/-! ### Received frames -/

/-- A frame long enough for its kind is offered to its unit, then to the route table (R2, R7). -/
theorem State.frameEvent_taken (p : Port) (least : Nat) (unit : State → State) (f : Frame) {s : State}
    (h : s.hears p) (hl : least ≤ f.data.length) : s.frameEvent p least unit f = (unit s).forward p f := by
  unfold State.frameEvent
  rw [State.hears_deaf h, if_neg (by simp), if_neg (by omega)]

/-- A malformed frame is counted and offered to the route table (R4). -/
theorem State.frameEvent_malformed (p : Port) (least : Nat) (unit : State → State) (f : Frame) {s : State}
    (h : s.hears p) (hl : f.data.length < least) :
    s.frameEvent p least unit f = (s.onPort p PortUnit.countMalformed).forward p f := by
  unfold State.frameEvent
  rw [State.hears_deaf h, if_neg (by simp), if_pos hl]

/-- No frame is taken on a port that does not hear (R1). -/
theorem State.frameEvent_deaf (p : Port) (least : Nat) (unit : State → State) (f : Frame) {s : State}
    (h : ¬s.hears p) : s.frameEvent p least unit f = s := by
  unfold State.frameEvent
  rw [State.deaf_of_not_hears h, if_pos rfl]

/-! ### Station frames -/

/-- An accepted frame stores its sequence and is handled (R27). -/
theorem State.stationFrame_accepted (k : StationKind) (ch : Nat) (data : List Byte)
    (handle : Fin 4 → State → State) {s : State} {i : Fin 4} (hi : s.stationFor ch = some i)
    (hq : s.station.records[i].seq k ≠ some (seqField (byteAt data 0))) :
    s.stationFrame k ch data handle =
      handle i (s.withStation i (s.station.records[i].setSeq k (seqField (byteAt data 0)))) := by
  unfold State.stationFrame
  rw [hi]
  exact if_neg hq

/-- A repeat is counted and has no further effect (R27). -/
theorem State.stationFrame_repeat (k : StationKind) (ch : Nat) (data : List Byte)
    (handle : Fin 4 → State → State) {s : State} {i : Fin 4} (hi : s.stationFor ch = some i)
    (hq : s.station.records[i].seq k = some (seqField (byteAt data 0))) :
    s.stationFrame k ch data handle = s.withStation i
      { s.station.records[i] with repeats := satAdd Config.counterMax s.station.records[i].repeats 1 } := by
  unfold State.stationFrame
  rw [hi]
  exact if_pos hq

/-- A frame of no enabled station is ignored (R26). -/
theorem State.stationFrame_ignored (k : StationKind) (ch : Nat) (data : List Byte)
    (handle : Fin 4 → State → State) {s : State} (hi : s.stationFor ch = none) :
    s.stationFrame k ch data handle = s := by
  unfold State.stationFrame
  rw [hi]

/-! ### Interlocks -/

/-- What telling the release controller of a condition can do (R139). -/
theorem State.checkLock_cases (c : Interlock) (s : State) :
    s.checkLock c = s ∨
    ∃ i, s.coup.slot = some i ∧ (s.couplingEntry i).hasLock c = true ∧ s.lockHolds i c = true ∧
      s.checkLock c = s.abortRelease i := by
  unfold State.checkLock
  cases hs : s.coup.slot with
  | none => exact .inl rfl
  | some i =>
    by_cases h : ((s.couplingEntry i).hasLock c && s.lockHolds i c) = true
    · refine .inr ⟨i, rfl, ?_, ?_, ?_⟩ <;> simp_all
    · exact .inl (by simp [h])

/-- With the slot EMPTY the release controller does nothing (R139). -/
theorem State.checkLock_empty (c : Interlock) {s : State} (h : s.coup.slot = none) : s.checkLock c = s := by
  unfold State.checkLock
  rw [h]

/-- What a change of an actuator's output can tell the release controller (R104). -/
theorem State.watchBow_cases (before after : State) :
    State.watchBow before after = after ∨ State.watchBow before after = after.checkLock .bowActive := by
  unfold State.watchBow
  split
  · exact .inr rfl
  · exact .inl rfl

/-! ### Steps -/

/-- Every command leaves a next state: no event stops the part. -/
theorem exec_next (c : Instr) (s : State) : ∃ t, exec c s = .next t := by
  cases c <;> exact ⟨_, rfl⟩

end Sys2Proof.Machine
end

