-- ==== Sys2Proof/Tests/Slice0.lean ====
section
/-! SUPPORT. Tests of the model: ill-formed commands, one-step tests from the spec's worked examples and rules, and for
every obligation with hypotheses a witness: states and operands that meet them, clause by clause. -/

namespace Sys2Proof.Tests

open Sys2Proof Sys2Proof.Machine

-- One theorem at a time: each evaluates whole states, and many at once would need a stack each.
set_option Elab.async false

/-! ### Helpers -/

/-- Bytes from numbers. -/
def bs (l : List Nat) : List Byte := l.map (BitVec.ofNat 8)

/-- A signed 16-bit field. -/
def i16 (v : Int) : List Byte := signedField 2 v

/-- A READY table from its words. -/
def readyTable (n : Nat) (words : List Int) : Table :=
  { state := .ready, cause := .none, count := n, words := words.map (BitVec.ofInt 16) }

/-- Whether a command gives a next state that passes a check. -/
def gives (c : Instr) (s : State) (p : State → Bool) : Bool :=
  match exec c s with
  | .next t => p t
  | .fault _ => false
  | .refused _ => false

/-- The data of the newest frame of W's BULK queue: the last REPLY. -/
def reply (s : State) : List Byte := (s.comms.w.bulk.getLast?.map (·.data)).getD []

/-- The identifiers and data of a queue. -/
def contents (l : List Frame) : List (Nat × List Byte) := l.map fun f => (f.id.toNat, f.data)

/-- An engine channel in NEUTRAL at an idle of 650. -/
def idling : EngineChannel := newChannel 650 0

/-- The channel of the worked example "reversal from ahead to astern": AHEAD and LIVE at 800. -/
def driving : EngineChannel :=
  { idling with gear := .ahead, engaged := .ahead, fresh := .live, freshTimer := some 500, c := 800,
                lastRaw := 800, lastTarget := 800, lastCap := 1800, lastOutput := 800 }

/-- An actuator record FOLLOWING at an output. -/
def steering (out : Int) : Actuator := { newActuator with state := .following, output := out, reported := true }

/-- A BOW actuator that is gated. -/
def gatedBow : Actuator := { newActuator with state := .gated }

/-- A coupling record from its state, tension and pin. -/
def couplingAt (st : CouplingState) (tension : Nat) (pinOpen : Bool) : CouplingRecord :=
  { state := st, tension := tension, pinOpen := pinOpen, age := 0 }

/-- Curve 0 climbs to 1800, curve 1 is the one of the reversal example. -/
def curves : List Int :=
  [650, 700, 760, 830, 900, 980, 1060, 1140, 1220, 1300, 1380, 1460, 1540, 1610, 1680, 1740, 1800] ++
  (List.range 17).map fun p => 650 + 5 * (p : Int)

/-- The eight tables of the test installation, all READY: stations on channels 20 to 22, engines on 10 to 12 (0 and 1 in
group 1), actuators 0 to 3 (MAIN, MAIN, FLANKING, BOW), couplings 0 (the face wire of the
lock cut), 1 (BOW_BOAT), 2 (the side coupling) and a disabled entry 3, a supply and a return meter, two tanks, and the
ROUTE table of the route lookup example. -/
def tablesOf : Vector Table 8 :=
  #v[readyTable 3 [1, 20, 1, 1, 21, 8, 1, 22, 64],
     readyTable 3 ([1, 10, 650, 1800, 700, 0, 1, 130, 150, 40, 1, 0] ++ [1, 11, 650, 1800, 700, 0, 1, 130, 150, 40, 1, 1] ++
       [1, 12, 650, 1800, 700, 0, 1, 130, 150, 40, 0, 255]),
     readyTable 34 curves,
     readyTable 4 [1, 0, 1, 20, 0, 1000, 350, 45, 0, 1, 0, 1, 21, 0, 1000, 350, 45, 0,
       1, 1, 1, 22, 0, -800, 450, 60, 0, 1, 2, 2, 30, 0, 2000, 600, 200, 1],
     readyTable 4 [1, 14, 2, 0, 1, 50, 800, 25, 1, 11, 1, 12, 1, 3, 3, 40, 600, 20, 0, 0,
       1, 13, 0, 2, 2, 40, 600, 20, 1, 15, 0, 0, 0, 0, 1, 0, 1, 0, 0, 0],
     readyTable 2 [1, 30, 2500, 0, 0, 0, 840, 3000, 1, 31, 2370, 1, 0, 255, 840, 3000],
     readyTable 2 [0, 2000, 0, 300, 845, 0, 310, 0, 40000, 0, 100, 845, 0, 39800],
     readyTable 4 [3, 9, 0, 63, 0, 1, 1, 1, 32, 40, 47, 1, 0, 0, 2, 8, 0, 63, 0, 3, 0, 3, 32, 0, 63, 0, 7, 0]]

/-- The installation at rest: engines in NEUTRAL, the rudders FOLLOWING at 0, every coupling MADE. -/
def fleet : State :=
  let s := State.reset
  { s with
    mgmt := { s.mgmt with tables := tablesOf }
    prop := { s.prop with channels := #v[some idling, some idling, some idling, none] }
    steer := { s.steer with actuators :=
      #v[some (steering 0), some newActuator, some (steering 0), some (steering 0), none, none, none, none] }
    coup := { s.coup with records := put (put (put (Vector.replicate 48 none) 0 (some (couplingAt .made 140 false)))
      1 (some (couplingAt .made 140 false))) 2 (some (couplingAt .made 140 false)) }
    fuel := { s.fuel with tanks := #v[some (newTank 310), some (newTank 39800), none, none, none, none, none, none] } }

/-- Engine 0 in AHEAD as in the reversal example. -/
def underWay : State := fleet.withChannel 0 driving

/-- Coupling 0 SLACK at 30 kN, as before the release of the lock cut. -/
def slackened : State := fleet.withCoupling 0 (couplingAt .slack 30 false)

/-- A release of coupling 0 in hand. -/
def releasing : State :=
  let s := fleet.withCoupling 0 (couplingAt .releasing 30 false)
  { s with coup := { s.coup with level := 1, slot := some 0, releaseTimer := some 15000 } }

/-- A STATION load of two entries in hand, five of six words written. -/
def loading : State :=
  let x := loadingTable .station 2
  { (fleet.withTable .station x) with mgmt :=
    { tables := put tablesOf 0 x, loadSlot := some .station, writeIndex := 5, readTable := .station, readIndex := 5 } }

/-- The part with its W port as given. -/
def withW (f : PortUnit → PortUnit) (s : State) : State := s.onPort .w f

/-- A frame to fill queues with. -/
def filler (n : Nat) : Frame := frameOf 20 0 (bs [n])

/-- `n` frames. -/
def fillers (n : Nat) : List Frame := (List.range n).map filler

/-- W's BULK queue full behind the frame in flight. -/
def wFull : State := withW (fun u => { u with bulk := fillers 8, inFlight := some .bulk }) fleet

/-- A restart pending, its REPLY in flight. -/
def replying : State :=
  { withW (fun u => { u with bulk := fillers 1, inFlight := some .bulk }) fleet with replyWait := some 0 }

/-- A port DOWN. -/
def withDown (p : Port) (s : State) : State := s.onPort p fun u => { u with link := .down }

/-- The M port of the coalescing example. -/
def coalescing : State := fleet.onPort .m fun u =>
  { u with urgent := [frameOf 1 10 (i16 1209 ++ bs [1]), frameOf 2 20 (i16 120), frameOf 1 11 (i16 1180 ++ bs [1])],
           inFlight := some .urgent }

/-! ### Well-formedness -/

theorem test_wf_short_frames :
    (Instr.frameReceived .w (frameOf 5 1 (bs [0, 0, 0, 0, 0, 0, 0, 0, 0]))).wf = false ∧
    (Instr.lever 1 (bs [1, 2, 3])).wf = false ∧ (Instr.helm 1 (bs [1, 2])).wf = false ∧
    (Instr.take 1 (bs [1])).wf = false ∧ (Instr.watch 1 []).wf = false ∧
    (Instr.govReport 1 (bs [1, 2])).wf = false ∧ (Instr.rudReport .m 1 (bs [1])).wf = false ∧
    (Instr.rudReport .w 1 (bs [1, 2])).wf = false ∧ (Instr.coupleReport 1 (bs [1, 2, 3])).wf = false ∧
    (Instr.flow 1 (bs [1, 2, 3])).wf = false ∧ (Instr.lever 1 (bs [1, 2, 3, 4, 5, 6, 7, 8, 9])).wf = false := by
  decide

theorem test_wf_long_arguments :
    ([Instr.tableOpen 0, .tableWrite 0, .tableClose 0, .tableReadSeek 0, .tableRead 0, .tableState 0, .setParam 0,
      .getParam 0, .recordRead 0, .counterRead 0, .noticeClear 0, .snapCapture 0, .snapRead 0, .bunker 0, .transfer 0,
      .coupleRelease 0, .coupleDetach 0, .coupleAttach 0, .pollNow 0, .actuatorReset 0, .restartCommand 0,
      .unknownCommand 0 0x7E].any fun c => (c (bs [0, 0, 0, 0, 0, 0, 0])).wf) = false := by
  decide

theorem test_wf_known_code : (Instr.unknownCommand 0 0x7F []).wf = false ∧ (Instr.unknownCommand 0 0x7E []).wf = true := by
  decide

theorem test_no_row_has_bits : decodeTableWord 16 0x1234 = none := rfl

/-! ### The test states -/

theorem test_fleet_sound : fleet.sound = true := by decide +kernel
theorem test_underWay_sound : underWay.sound = true := by decide +kernel
theorem test_releasing_sound : releasing.sound = true := by decide +kernel
theorem test_loading_tables_sound : loading.tablesSound = true := by decide +kernel

/-! ### Ports (the worked examples of chapter 1) -/

/-- Coalescing on M, then link lost. -/
theorem test_coalescing_then_link_lost :
    let s := (coalescing.offerUrgent .m (frameOf 1 10 (i16 1216 ++ bs [1]))).offerUrgent .m
      (frameOf 1 11 (i16 1186 ++ bs [1]))
    let t := s.onPort .m fun u => { u with routine := fillers 2 }
    contents s.comms.m.urgent = [(74, i16 1209 ++ bs [1]), (148, i16 120), (75, i16 1186 ++ bs [1]), (74, i16 1216 ++ bs [1])] ∧
    gives (.linkLost .m) t (fun t => decide (contents t.comms.m.urgent =
        [(148, i16 120), (75, i16 1186 ++ bs [1]), (74, i16 1216 ++ bs [1])]) && decide (t.comms.m.frameLoss = 2) &&
      decide (t.comms.notices[(17 : Fin 20)] = { flag := true, last := 1 }) &&
      decide (t.comms.notices[(18 : Fin 20)] = { flag := true, last := 1 })) = true := by
  decide +kernel

/-- Patience on a busy port: the classes of the nine grants. -/
theorem test_patience :
    let u : PortUnit := { PortUnit.restarted 0 with urgent := fillers 9, routine := [filler 1], bulk := [filler 2] }
    let turn (x : PortUnit × List (Option QueueClass)) : PortUnit × List (Option QueueClass) :=
      let g := PortUnit.grant fleet.env x.1
      (g.sent, x.2 ++ [g.inFlight])
    (turn (turn (turn (turn (turn (turn (turn (turn (turn (u, [])))))))))).2 =
      [some .urgent, some .urgent, some .urgent, some .urgent, some .routine, some .urgent, some .urgent, some .urgent,
        some .bulk] := by
  decide +kernel

theorem test_transmit_complete :
    gives (.transmitComplete .m) coalescing (fun t => decide (t.comms.m.urgent.length = 2) &&
      decide (t.comms.m.inFlight = some .urgent)) = true := by
  decide +kernel

theorem test_link_restored :
    gives (.linkRestored .m) (withDown .m (coalescing.onPort .m fun u => { u with inFlight := none }))
      (fun t => decide (t.comms.m.link = .up) && decide (t.comms.m.inFlight = some .urgent)) = true := by
  decide +kernel

/-- The route lookup example: a COUPLE-REPORT goes to W BULK; a FLOW on channel 44 is dropped. -/
theorem test_route_lookup :
    gives (.frameReceived .t (frameOf 9 12 (bs [1, 0, 140, 0]))) fleet (fun t => decide (t.comms.w.bulk.length = 1) &&
      decide (t.comms.w.routine = []) && decide (t.comms.m.routine = [])) = true ∧
    gives (.frameReceived .m (frameOf 11 44 (bs [0, 0, 0, 0]))) fleet (fun t => decide (t = fleet)) = true := by
  decide +kernel

/-- A LEVER of three bytes is malformed: counted, and offered to the route table (R4). -/
theorem test_malformed_frame :
    gives (.frameReceived .w (frameOf 5 20 (bs [7, 0, 1]))) fleet (fun t => decide (t.comms.w.malformed = 1) &&
      decide (t.comms.m.routine.length = 1) && decide (t.comms.t.routine.length = 1) &&
      decide (t.station = fleet.station)) = true := by
  decide +kernel

/-! ### Stations (the worked examples of chapter 2) -/

theorem test_lever_repeat :
    gives (.lever 21 (bs [7, 0] ++ i16 300)) fleet (fun t => decide (t.station.records[(1 : Fin 4)].lever[(0 : Fin 4)] = 300) &&
      decide (t.station.lever = fleet.station.lever) &&
      gives (.lever 21 (bs [7, 0] ++ i16 320)) t fun u => decide (u.station.records[(1 : Fin 4)].repeats = 1) &&
        decide (u.station.records[(1 : Fin 4)].lever[(0 : Fin 4)] = 300)) = true := by
  decide +kernel

theorem test_lever_from_command_station :
    gives (.lever 20 (bs [200, 255] ++ i16 2000)) fleet (fun t => decide (t.station.lever = Vector.replicate 4 1024) &&
      decide (t.station.records[(0 : Fin 4)].seqLever = some 15) &&
      ((t.prop.channels[(2 : Fin 4)]).map fun c => decide (c.fresh = .live)).getD false) = true := by
  decide +kernel

theorem test_helm_clamped :
    gives (.helm 20 (bs [1] ++ i16 (-900))) fleet (fun t => decide (t.station.helm = -450) &&
      decide (t.steer.helmTimer = some 500) && decide (t.steer.helmFresh = .live)) = true := by
  decide +kernel

/-- The transfer by match: refused with engine 1 off by 70, granted once all stand at 420. -/
theorem test_transfer_by_match :
    let blank := StationRecord.blank
    let s := ((fleet.withStation 0 { blank with lever := #v[400, 400, 0, 0], helm := 50 }).withStation 2
      { blank with lever := #v[350, 470, 0, 0], helm := 20 }).withLevers #v[400, 400, 0, 0]
    let s := (s.withHelm 50).withChannel 2 idling
    let s := { s with prop := { s.prop with channels := #v[some idling, some idling, none, none] },
                      mgmt := { s.mgmt with tables := put s.mgmt.tables 1 (readyTable 2 (tablesOf[(1 : Fin 8)].words.map (·.toInt) |>.take 24)) } }
    gives (.take 22 (bs [3, 0])) s (fun t => decide (t.station.command = 0)) = true ∧
    gives (.take 22 (bs [4, 0])) (s.withStation 2 { blank with lever := Vector.replicate 4 420, helm := 20 })
      (fun t => decide (t.station.command = 2) && decide (t.station.lever = Vector.replicate 4 420) &&
        decide (t.station.helm = 20)) = true := by
  decide +kernel

theorem test_take_forced :
    gives (.take 20 (bs [1, 1])) { fleet with station := { fleet.station with command := 1, helm := 400 } }
      (fun t => decide (t.station.command = 0) && decide (t.station.helm = 0) &&
        decide (t.comms.notices[(0 : Fin 20)] = { flag := true, last := 0 })) = true := by
  decide +kernel

theorem test_watch_captures :
    gives (.watch 20 (bs [1])) fleet (fun t => decide (t.fuel.captureSeq = 1) && t.fuel.snapshot.isSome) = true ∧
    gives (.watch 21 (bs [1])) fleet (fun t => decide (t.fuel = fleet.fuel)) = true := by
  decide +kernel

/-! ### Propulsion (the worked examples of chapters 3 and 4) -/

/-- Expiry 1 of the reversal: SLOWING, 793 with 500 carried, GOV-SET 793 AHEAD. -/
theorem test_reversal_slows :
    gives .rampTimerExpiry (underWay.withLevers #v[-300, 0, 0, 0]) (fun t =>
      ((t.prop.channels[(0 : Fin 4)]).map fun c => decide (c.gear = .slowing ∧ c.c = 793 ∧ c.a = 500)).getD false &&
      decide ((contents t.comms.m.urgent).head? = some (74, i16 793 ++ bs [1]))) = true := by
  decide +kernel

/-- Expiry 61 of the reversal: ASTERN, raw 673, 656 with 500 carried. -/
theorem test_reversal_engages :
    gives .rampTimerExpiry ((fleet.withChannel 0 { idling with fresh := .live }).withLevers #v[-300, 0, 0, 0]) (fun t =>
      ((t.prop.channels[(0 : Fin 4)]).map fun c =>
        decide (c.gear = .astern ∧ c.lastRaw = 673 ∧ c.c = 656 ∧ c.a = 500)).getD false &&
      decide ((contents t.comms.m.urgent).head? = some (74, i16 656 ++ bs [2]))) = true := by
  decide +kernel

/-- The silent station: LIVE to HOLDING at 500 ms with LEVER_LOST, then IDLED. -/
theorem test_station_falls_silent :
    gives (.freshnessTimerExpiry 0) underWay (fun t =>
      ((t.prop.channels[(0 : Fin 4)]).map fun c => decide (c.fresh = .holding ∧ c.holdTimer = some 3000)).getD false &&
      decide (t.comms.notices[(1 : Fin 20)] = { flag := true, last := 0 }) &&
      gives (.holdTimerExpiry 0) t fun u =>
        ((u.prop.channels[(0 : Fin 4)]).map fun c => decide (c.fresh = .idled ∧ c.holdTimer = none)).getD false) = true := by
  decide +kernel

theorem test_dwell_expires :
    gives (.dwellTimerExpiry 1) (fleet.withChannel 1 { idling with gear := .dwell, dwellTimer := some 2000 }) (fun t =>
      decide (t.prop.channels[(1 : Fin 4)] = some idling)) = true := by
  decide +kernel

/-- Trim on a pair: the follower's report of 1372 against the lead's 1381 gives +2. -/
theorem test_trim_on_a_pair :
    let c := { driving with c := 1380, repGear := .ahead, reported := true, repRpm := 1381 }
    let s := (fleet.withChannel 0 c).withChannel 1 { c with repRpm := 0 }
    gives (.govReport 11 (i16 1372 ++ bs [1])) { s with prop := { s.prop with sync1 := some .ahead } } (fun t =>
      decide ((t.prop.channels[(1 : Fin 4)]).map (·.trim) = some 2) &&
      decide ((t.prop.channels[(0 : Fin 4)]).map (·.trim) = some 0)) = true := by
  decide +kernel

/-! ### Steering (the worked examples of chapter 5) -/

/-- A bend: actuator 0 moves 1 keeping 800; actuator 3's BOW-SET carries 8. -/
theorem test_bend_first_expiry :
    gives .steeringTimerExpiry (fleet.withHelm 300) (fun t =>
      decide ((t.steer.actuators[(0 : Fin 8)]).map (fun a => (a.output, a.remainder)) = some (1, 800)) &&
      decide ((t.steer.actuators[(2 : Fin 8)]).map (·.output) = some 0) &&
      decide (contents t.comms.t.urgent = [(222, i16 8)]) && decide ((contents t.comms.m.urgent).head? = some (148, i16 1))) = true := by
  decide +kernel

/-- The limit falls to 233 and the rate to 22 at derate level 3: the output of 280 is cut. -/
theorem test_bend_derated :
    let s := (fleet.withHelm 300).withActuator 0 { steering 280 with remainder := 400, ramp := .rising, target := 300 }
    gives .steeringTimerExpiry { s with coup := { s.coup with level := 3 } } (fun t =>
      decide ((t.steer.actuators[(0 : Fin 8)]).map (fun a => (a.target, a.output, a.remainder)) = some (233, 233, 0))) = true := by
  decide +kernel

/-- The jammed rudder: report 23 reaches FOLLOW_COUNT. -/
theorem test_jammed_rudder :
    gives (.rudReport .m 21 (i16 40)) (fleet.withActuator 1 { steering 133 with count := 9 }) (fun t =>
      decide ((t.steer.actuators[(1 : Fin 8)]).map (fun a => (a.state, a.output, a.count)) = some (.fault, 133, 10)) &&
      decide (t.comms.notices[(3 : Fin 20)] = { flag := true, last := 1 })) = true := by
  decide +kernel

theorem test_first_report_aligns :
    gives (.rudReport .m 21 (i16 150)) fleet (fun t =>
      decide ((t.steer.actuators[(1 : Fin 8)]).map (fun a => (a.state, a.output, a.target)) = some (.following, 150, 150))) = true := by
  decide +kernel

theorem test_helm_timer :
    gives .helmTimerExpiry { fleet with steer := { fleet.steer with helmFresh := .live, helmTimer := some 500 } } (fun t =>
      decide (t.steer.helmFresh = .held ∧ t.steer.helmTimer = none) &&
      decide (t.comms.notices[(2 : Fin 20)] = { flag := true, last := 0 })) = true := by
  decide +kernel

theorem test_actuator_reset :
    gives (.actuatorReset 9 (bs [1])) (fleet.withActuator 1 { steering 133 with state := .fault }) (fun t =>
      decide ((t.steer.actuators[(1 : Fin 8)]).map (fun a => (a.state, a.output)) = some (.align, 133)) &&
      decide (reply t = bs [9, 0])) = true ∧
    gives (.actuatorReset 9 (bs [0])) fleet (fun t => decide (reply t = bs [9, 3])) = true := by
  decide +kernel

/-! ### Couplings (the worked examples of chapters 6 and 7) -/

/-- Hysteresis on a side coupling: the states after the ten reports. -/
theorem test_hysteresis :
    let x := fleet.couplingEntry 2
    [45, 35, 55, 60, 610, 590, 580].foldl (fun (a : CouplingState × List CouplingState) t =>
      (classify x a.1 t, a.2 ++ [classify x a.1 t])) (.made, []) =
      (.made, [.made, .slack, .slack, .made, .overload, .overload, .made]) := by
  decide +kernel

/-- The pin of the side coupling opens under 300 kN: PARTED, contribution 3. -/
theorem test_pin_opens :
    gives (.coupleReport 13 (bs [0] ++ i16 300 ++ bs [1])) fleet (fun t =>
      decide (t.coup.records[(2 : Fin 48)] = some (couplingAt .parted 300 true)) && decide (t.coup.level = 3) &&
      decide (t.comms.notices[(8 : Fin 20)] = { flag := true, last := 2 })) = true := by
  decide +kernel

/-- The bow coupling goes slack: actuator 3 is gated and its waiting BOW-SET withdrawn. -/
theorem test_bow_gated :
    let s := (fleet.withActuator 3 { steering 96 with ramp := .rising, target := 600 }).onPort .t fun u =>
      { u with urgent := [frameOf 3 30 (i16 96)], routine := [filler 0], inFlight := some .routine }
    gives (.coupleReport 12 (bs [1] ++ i16 30 ++ bs [0])) s (fun t => decide (t.comms.t.urgent = []) &&
      decide ((t.steer.actuators[(3 : Fin 8)]).map (fun a => (a.state, a.output, a.target, a.ramp)) =
        some (.gated, 0, 0, .none))) = true := by
  decide +kernel

/-- The lock cut: refused under load, then accepted, aborted by the helm. -/
theorem test_lock_cut_release :
    gives (.coupleRelease 5 (bs [0])) fleet (fun t => decide (reply t = bs [5, 7, 3])) = true ∧
    gives (.coupleRelease 5 (bs [0])) slackened (fun t => decide (reply t = bs [5, 0]) &&
      decide (t.coup.slot = some 0 ∧ t.coup.releaseTimer = some 15000) &&
      decide (contents t.comms.t.urgent = [(270, bs [2, 1])]) &&
      gives (.helm 20 (bs [1] ++ i16 45)) t fun u => decide (u.coup.slot = none ∧ u.coup.releaseTimer = none) &&
        decide (contents u.comms.t.urgent = [(270, bs [2, 1]), (270, bs [2, 2])]) &&
        decide (u.coup.records[(0 : Fin 48)] = some (couplingAt .slack 30 false)) &&
        decide (u.comms.notices[(10 : Fin 20)] = { flag := true, last := 0 })) = true := by
  decide +kernel

/-- The end of the lock cut: the pin opens, RELEASE_DONE. -/
theorem test_lock_cut_done :
    gives (.coupleReport 14 (bs [2] ++ i16 0 ++ bs [1])) releasing (fun t =>
      decide (t.coup.records[(0 : Fin 48)] = some (couplingAt .released 0 true)) && decide (t.coup.slot = none) &&
      decide (t.coup.level = 1) && decide (t.comms.notices[(9 : Fin 20)] = { flag := true, last := 0 })) = true := by
  decide +kernel

theorem test_release_times_out :
    gives .releaseTimerExpiry releasing (fun t => decide (t.coup.slot = none ∧ t.coup.releaseTimer = none) &&
      decide (contents t.comms.t.urgent = [(270, bs [2, 2])]) &&
      decide (t.comms.notices[(11 : Fin 20)] = { flag := true, last := 0 })) = true := by
  decide +kernel

/-- The walk around a RELEASED point: from 2, released, and 3, no record, to 0. -/
theorem test_walk_passes_released :
    let s := fleet.withCoupling 2 (couplingAt .released 0 true)
    gives .pollTimerExpiry { s with coup := { s.coup with walk := 2 } } (fun t => decide (t.coup.walk = 1) &&
      decide (contents t.comms.t.routine = [(782, bs [2])]) &&
      decide ((t.coup.records[(0 : Fin 48)]).map (·.age) = some 1) &&
      decide ((t.coup.records[(2 : Fin 48)]).map (·.age) = some 0)) = true := by
  decide +kernel

theorem test_detach_and_attach :
    gives (.coupleDetach 5 (bs [0])) slackened (fun t => decide (reply t = bs [5, 0]) &&
      decide ((t.coup.records[(0 : Fin 48)]).map (·.state) = some .released) &&
      gives (.coupleAttach 6 (bs [0])) t fun u => decide ((u.coup.records[(0 : Fin 48)]).map (·.state) = some .unknown) &&
        decide (u.coup.level = 1)) = true ∧
    gives (.coupleDetach 5 (bs [0])) releasing (fun t => decide (reply t = bs [5, 2])) = true := by
  decide +kernel

theorem test_poll_now :
    gives (.pollNow 5 (bs [2])) fleet (fun t => decide (contents t.comms.t.routine = [(781, bs [0])]) &&
      decide (t.coup.walk = 0) && decide (reply t = bs [5, 0])) = true := by
  decide +kernel

/-! ### Fuel (the worked examples of chapters 8 and 9) -/

/-- Two meters: delta 1234 at 45.2 degrees gives 48,107 and carries 835,520. -/
theorem test_meter_conversion :
    let s := fleet.withMeter 0 { MeterRecord.blank with baseline := some 0 }
    gives (.flow 30 (i16 1234 ++ i16 452)) s (fun t =>
      decide (t.fuel.meters[(0 : Fin 8)] =
        { baseline := some 1234, ra := 0, rb := 835520, glitches := 0, temp := 452, amount := 48107 }) &&
      decide (t.fuel.engines[(0 : Fin 4)].supply = 48107) &&
      decide ((t.fuel.tanks[(0 : Fin 8)]).map (·.debits) = some 48107)) = true := by
  decide +kernel

/-- Wrap and glitch: 12 after 1,200. -/
theorem test_meter_glitch :
    let s := fleet.withMeter 1 { MeterRecord.blank with baseline := some 1200 }
    gives (.flow 31 (i16 12 ++ i16 150)) s (fun t =>
      decide (t.fuel.meters[(1 : Fin 8)] = { MeterRecord.blank with baseline := some 12, glitches := 1 }) &&
      decide (t.comms.notices[(12 : Fin 20)] = { flag := true, last := 1 })) = true := by
  decide +kernel

/-- A small tank running down. -/
theorem test_small_tank :
    let s := fleet.debitTank 0 4500
    let t := (((s.debitTank 0 6000).creditTank 0 1000).debitTank 0 1200)
    decide ((s.fuel.tanks[(0 : Fin 8)]).map (fun r => (r.balance, r.reserve)) = some (305500, false)) = true ∧
    gives (.transfer 4 (bs [0, 1, 0, 1, 144])) t (fun u =>
      decide ((u.fuel.tanks[(0 : Fin 8)]).map (fun r => (r.balance, r.debits, r.reserve)) = some (0, 311000, true)) &&
      decide ((u.fuel.tanks[(1 : Fin 8)]).map (fun r => (r.balance, r.excess)) = some (40000000, 99300)) &&
      decide (reply u = bs [4, 0, 0, 1, 43, 0, 0, 99]) && gives (.flow 63 (bs [0, 0, 0, 0])) u fun _ => true) = true := by
  decide +kernel

theorem test_bunker :
    gives (.bunker 4 (bs [0, 0, 7, 208])) fleet (fun t =>
      decide ((t.fuel.tanks[(0 : Fin 8)]).map (fun r => (r.balance, r.excess)) = some (2000000, 310000)) &&
      decide (reply t = bs [4, 0, 0, 7, 208, 0, 1, 54])) = true := by
  decide +kernel

/-- The snapshot's masses, litres and unassigned of the watch example, engine 0 feeding from tank 0 (density 845). -/
theorem test_snapshot_figures :
    let s := { fleet with fuel := { fleet.fuel with
      engines := #v[{ supply := 412385540, ret := 131902770 }, { supply := 0, ret := 5000 }, { supply := 0, ret := 0 },
        { supply := 0, ret := 0 }], unassigned := -2480900, captureSeq := 16 } }
    gives (.snapCapture 3 []) s (fun t => decide (reply t = bs [3, 0, 0, 17, 0]) &&
      match t.fuel.snapshot with
      | some x => decide (x.capture.mass = #v[237007, 0, 0, 0]) && decide (x.capture.unassigned = -2480) &&
          decide (x.capture.supply[(0 : Fin 4)] = 412385) && decide (x.capture.ret[(1 : Fin 4)] = 5)
      | none => false) = true := by
  decide +kernel

/-- A renewal during the read: part 11 answers RENEWED, then OK with the buffer given back. -/
theorem test_snapshot_renewed :
    gives (.snapRead 3 (bs [11])) ((fleet.capture .mgmt).capture .watch) (fun t =>
      decide ((reply t).take 2 = bs [3, 11]) &&
      gives (.snapRead 3 (bs [11])) t fun u => decide (u.fuel.snapshot = none) && decide ((reply u).take 2 = bs [3, 0])) = true := by
  decide +kernel

/-! ### Tables and management (chapter 10 and 12) -/

/-- The check value of the ASCII digits 1 to 9. -/
theorem test_crc : crcOf (bs [0x31, 0x32, 0x33, 0x34, 0x35, 0x36, 0x37, 0x38, 0x39]) = 0x29B1 := by decide +kernel

/-- The STATION load cut short: busy, no room, then REJECTED by the count check with detail 5. -/
theorem test_station_load_cut_short :
    gives (.tableOpen 1 (bs [6, 4])) loading (fun t => decide (reply t = bs [1, 2, 0])) = true ∧
    gives (.tableWrite 1 (bs [0, 1, 0, 2])) loading (fun t => decide (reply t = bs [1, 4])) = true ∧
    gives (.tableClose 1 (bs [0, 0])) loading (fun t => decide (reply t = bs [1, 9, 1, 0, 5]) &&
      decide ((t.table .station).state = .rejected) && decide (t.mgmt.loadSlot = none) &&
      decide (t.comms.notices[(19 : Fin 20)] = { flag := true, last := 0 })) = true := by
  decide +kernel

theorem test_table_open_clamps :
    gives (.tableOpen 1 (bs [0, 9])) fleet (fun t => decide (reply t = bs [1, 1, 4]) &&
      decide ((t.table .station).words = List.replicate 12 0) && decide (t.mgmt.loadSlot = some .station)) = true ∧
    gives (.tableOpen 1 (bs [1, 2])) underWay (fun t => decide (reply t = bs [1, 6])) = true := by
  decide +kernel

theorem test_table_write :
    gives (.tableWrite 1 (bs [0x12, 0x34])) loading (fun t => decide (reply t = bs [1, 0, 0, 6]) &&
      decide ((t.table .station).words = [0, 0, 0, 0, 0, 0x1234])) = true := by
  decide +kernel

theorem test_table_close_ready :
    gives (.tableWrite 1 (bs [0, 0])) loading (fun t =>
      gives (.tableClose 1 (fieldOf 2 (crcOf (List.replicate 12 0)).toNat)) t fun u =>
        decide ((u.table .station).state = .ready) && decide (reply u = bs [1, 0, 2])) = true := by
  decide +kernel

theorem test_table_reads :
    gives (.tableReadSeek 1 (bs [0, 0, 7])) fleet (fun t => decide (reply t = bs [1, 0]) &&
      gives (.tableRead 1 []) t fun u => decide (reply u = bs [1, 0, 0, 22, 0, 64]) && decide (u.mgmt.readIndex = 9)) = true ∧
    gives (.tableState 1 (bs [0])) loading (fun t => decide (reply t = bs [1, 0, 1, 2, 0, 0, 5, 0])) = true := by
  decide +kernel

theorem test_parameters :
    gives (.setParam 1 (bs [0, 0, 0, 0, 57])) fleet (fun t => decide (t.params.propInterval = 50) &&
      decide (reply t = bs [1, 0, 0, 0, 0, 50])) = true ∧
    gives (.setParam 1 (bs [0, 0, 0, 0, 9])) fleet (fun t => decide (reply t = bs [1, 1, 0, 0, 0, 20])) = true ∧
    gives (.getParam 1 (bs [26])) fleet (fun t => decide (reply t = bs [1, 0, 0, 15, 255, 255])) = true := by
  decide +kernel

theorem test_record_read :
    gives (.recordRead 1 (bs [2, 0, 1])) underWay (fun t => decide (reply t = bs [1, 0, 3, 32, 0, 0, 0])) = true ∧
    gives (.recordRead 1 (bs [0, 0, 0])) fleet (fun t => decide (reply t = bs [1, 0, 255, 255, 255, 255])) = true := by
  decide +kernel

theorem test_counter_read :
    gives (.counterRead 1 (bs [0, 1])) (withW (fun u => { u with malformed := 258 }) fleet) (fun t =>
      decide (reply t = bs [1, 0, 1, 2]) && decide (t.comms.w.malformed = 0)) = true := by
  decide +kernel

/-- A command taken while W is DOWN is carried out, and its REPLY is counted as lost, as is FRAME_LOSS's NOTICE (R193,
R196). -/
theorem test_notice_clear :
    gives (.noticeClear 1 (bs [4, 0, 0])) (withDown .w (fleet.raise .meterGlitch 2)) (fun t =>
      decide (t.comms.notices[(12 : Fin 20)] = { flag := true, last := 2 }) && decide (t.comms.w.frameLoss = 2) &&
      decide (t.comms.notices[(17 : Fin 20)] = { flag := true, last := 0 })) = true ∧
    gives (.noticeClear 1 (bs [0, 0x10, 0])) (withDown .w (fleet.raise .meterGlitch 2)) (fun t =>
      decide (t.comms.notices[(12 : Fin 20)] = { flag := false, last := 2 })) = true ∧
    gives (.noticeClear 1 (bs [4, 0, 0])) (fleet.raise .portDown 2) (fun t => decide (reply t = bs [1, 0, 4, 0, 0]) &&
      decide (t.comms.notices[(18 : Fin 20)] = { flag := false, last := 2 })) = true := by
  decide +kernel

theorem test_unknown_command :
    gives (.unknownCommand 1 0x7E []) fleet (fun t => decide (reply t = bs [1, 5])) = true := by decide +kernel

/-! ### Restarts -/

/-- RESTART waits for its REPLY, then the part is held in a warm restart, and its end reads the straps (R24, R199). -/
theorem test_restart_by_command :
    gives (.restartCommand 1 []) fleet (fun t => decide (t.replyWait = some 0) && decide (reply t = bs [1, 0]) &&
      gives (.transmitComplete .w) t fun u => decide (u.replyWait = none ∧ u.restart = some .warm) &&
        gives (.endOfRestart ⟨9, 1, 2, 3⟩) u fun v => decide (v.channel = 9 ∧ v.restart = none) &&
          decide (v.comms.w.bulk = []) && decide (v.comms.m.bitRate = 2) &&
          ((v.prop.channels[(0 : Fin 4)]).map fun c => decide (c.gear = .dwell)).getD false) = true := by
  decide +kernel

/-- With W DOWN the REPLY is refused, and the part enters the warm restart within the event (R199). -/
theorem test_restart_with_link_down :
    gives (.restartCommand 1 []) (withDown .w fleet) (fun t => decide (t.restart = some .warm ∧ t.replyWait = none) &&
      decide (t.comms.w.frameLoss = 2)) = true := by
  decide +kernel

theorem test_power_on_reset :
    gives .powerOnReset fleet (fun t => gives .rampTimerExpiry t (fun u => decide (u = t)) &&
      gives (.endOfRestart ⟨9, 1, 2, 3⟩) t fun u => decide (u = State.poweredOn ⟨9, 1, 2, 3⟩ [])) = true := by
  decide +kernel

theorem test_warm_restart :
    gives .warmRestart underWay (fun t => gives (.endOfRestart ⟨9, 1, 2, 3⟩) t fun u =>
      decide (u.fuel.tanks = underWay.fuel.tanks) && decide (u.channel = 9) && decide (u.comms.t.bitRate = 3) &&
      ((u.prop.channels[(0 : Fin 4)]).map fun c => decide (c.gear = .dwell ∧ c.c = 650)).getD false &&
      decide ((u.coup.records[(1 : Fin 48)]).map (·.state) = some .unknown) &&
      decide ((u.steer.actuators[(3 : Fin 8)]).map (·.state) = some .gated)) = true := by
  decide +kernel

/-! ### Witnesses: for each obligation with hypotheses, states and operands that meet them -/

/-- The installation with one command waiting. -/
def waiting (c : Instr) (s : State) : State := { s with pending := [c] }

theorem witness_StepTakesFrontCommand :
    (waiting .pollTimerExpiry fleet).pending = .pollTimerExpiry :: [] ∧ fleet.pending = [] := ⟨rfl, rfl⟩

theorem witness_RestartHoldsEverything :
    ({ fleet with restart := some .warm } : State).restart.isSome = true ∧ Instr.rampTimerExpiry ≠ .powerOnReset ∧
    ∀ straps, Instr.rampTimerExpiry ≠ .endOfRestart straps := ⟨rfl, by decide, fun _ h => nomatch h⟩

theorem witness_ImpossibleEventsChangeNothing :
    ((withDown .m fleet).comms.port .m).link = .down ∧ (withDown .w fleet).comms.w.link = .down ∧
    (withDown .m fleet).comms.m.link = .down ∧ (withDown .t fleet).comms.t.link = .down ∧
    (fleet.prop.channels[(0 : Fin 4)] = some idling ∧ idling.dwellTimer = none ∧ idling.freshTimer = none ∧
      idling.holdTimer = none) ∧
    fleet.prop.channels[(3 : Fin 4)] = none ∧ fleet.steer.helmTimer = none ∧ fleet.coup.releaseTimer = none ∧
    (fleet.comms.port .t).inFlight = none ∧ fleet.restart = none := by decide +kernel

theorem witness_TransmitCompleteSendsHead :
    (coalescing.restart = none ∧ (coalescing.comms.port .m).inFlight = some .urgent ∧ Port.m ≠ .w) ∧
    (wFull.restart = none ∧ (wFull.comms.port .w).inFlight = some .bulk ∧ wFull.replyWait = none) ∧
    (replying.restart = none ∧ (replying.comms.port .w).inFlight = some .bulk ∧ replying.replyWait = some 0) ∧
    (let s := { wFull with replyWait := some 7 }
     s.restart = none ∧ (s.comms.port .w).inFlight = some .bulk ∧ s.replyWait = some (6 + 1)) := by decide +kernel

theorem witness_ArbiterGrantsByFiveTests :
    let u : PortUnit := { PortUnit.restarted 0 with urgent := fillers 1, routine := fillers 1, bulk := fillers 1 }
    (u.link = .up ∧ u.inFlight = none ∧ u.urgent ≠ [] ∧ u.routine ≠ [] ∧ u.bulk ≠ []) ∧
    fleet.env.patienceRoutine ≤ ({ u with passedRoutine := 4 } : PortUnit).passedRoutine ∧
    fleet.env.patienceBulk ≤ ({ u with passedBulk := 8 } : PortUnit).passedBulk ∧
    ({ u with link := .down } : PortUnit).link = .down ∧ (coalescing.comms.port .m).inFlight ≠ none ∧
    ((PortUnit.restarted 0).urgent = [] ∧ (PortUnit.restarted 0).routine = [] ∧ (PortUnit.restarted 0).bulk = []) := by
  decide +kernel

/-- M's URGENT queue with `n` frames of one key each, none in flight. -/
def urgentM (n : Nat) : State := fleet.onPort .m fun u =>
  { u with urgent := (List.range n).map fun k => frameOf 1 k [] }

theorem witness_UrgentOfferCoalesces :
    ((coalescing.comms.port .m).urgentWaiting = [frameOf 2 20 (i16 120)] ++ frameOf 1 11 (i16 1180 ++ bs [1]) :: [] ∧
      keyOf (frameOf 1 11 (i16 1180 ++ bs [1])) = keyOf (frameOf 1 11 (i16 1186 ++ bs [1])) ∧
      ∀ h ∈ [frameOf 2 20 (i16 120)] ++ [], keyOf h ≠ keyOf (frameOf 1 11 (i16 1186 ++ bs [1]))) ∧
    ((∀ h ∈ ((urgentM 15).comms.port .m).urgentWaiting, keyOf h ≠ keyOf (frameOf 1 63 [])) ∧
      ((urgentM 15).comms.port .m).urgent.length < 16) ∧
    ((∀ h ∈ ((urgentM 16).comms.port .m).urgentWaiting, keyOf h ≠ keyOf (frameOf 1 63 [])) ∧
      16 ≤ ((urgentM 16).comms.port .m).urgent.length) := by decide +kernel

theorem witness_LowOfferJoinsOrCounts :
    let with_ (n k : Nat) : State := withW (fun u => { u with routine := fillers n, bulk := fillers k }) fleet
    (((with_ 15 0).comms.port .w).link = .up ∧ ((with_ 15 0).comms.port .w).routine.length < 16) ∧
    (((with_ 0 7).comms.port .w).link = .up ∧ ((with_ 0 7).comms.port .w).bulk.length < 8) ∧
    16 ≤ ((with_ 16 0).comms.port .w).routine.length ∧ 8 ≤ ((with_ 0 8).comms.port .w).bulk.length ∧
    ((withDown .t fleet).comms.port .t).link = .down := by decide +kernel

theorem witness_NoticeRaiseTellsOnce :
    (fleet.raise .portDown 2).comms.notices[noticeNum .portDown].flag = true ∧
    ({ fleet with params := { fleet.params with noticeEnable := 0x7FFFF } } : State).params.noticeEnable.getLsbD
      (noticeNum .tableRejected).val = false ∧
    (fleet.comms.notices[noticeNum .tableRejected].flag = false ∧
      fleet.params.noticeEnable.getLsbD (noticeNum .tableRejected).val = true ∧ fleet.comms.w.link = .up ∧
      (withW (fun u => { u with bulk := fillers 7 }) fleet).comms.w.bulk.length < 8) ∧
    (wFull.comms.notices[noticeNum .leverLost].flag = false ∧
      wFull.params.noticeEnable.getLsbD (noticeNum .leverLost).val = true ∧ 8 ≤ wFull.comms.w.bulk.length) := by
  decide +kernel

theorem witness_LinkLostAndRestored : coalescing.restart = none ∧ replying.restart = none := by decide +kernel

theorem witness_EveryStepKeepsPorts :
    (waiting .pollTimerExpiry fleet).portsSound = true ∧ ∃ t, step (waiting .pollTimerExpiry fleet) = .next t :=
  ⟨by decide +kernel, _, rfl⟩

/-- The entry of the ROUTE table that the frame matches, as RouteTableForwards says it. -/
abbrev hit (s : State) (p : Port) (f : Frame) (i : Nat) : Prop :=
  (2 < s.entryWord .route i 0 ∨ s.entryWord .route i 0 = portNum p) ∧
  (31 < s.entryWord .route i 1 ∨ s.entryWord .route i 1 = kindOf f) ∧
  s.entryWord .route i 2 ≤ channelOf f ∧ channelOf f ≤ s.entryWord .route i 3

theorem witness_RouteTableForwards :
    (fleet.ready .route = true ∧ 2 < (fleet.table .route).count ∧ hit fleet .t (frameOf 8 7 []) 2 ∧
      ∀ k < 2, ¬hit fleet .t (frameOf 8 7 []) k) ∧
    (hit fleet .m (frameOf 11 40 []) 1 ∧ hit fleet .m (frameOf 11 47 []) 1 ∧ ¬hit fleet .m (frameOf 11 48 []) 1 ∧
      fleet.entryWord .route 1 4 = 1) ∧
    State.reset.ready .route = false ∧
    (let s := fleet.withTable .route (readyTable 1 [3, 9, 0, 63, 0, 1, 1])
     ∀ i < (s.table .route).count, ¬hit s .t (frameOf 8 7 []) i) := by decide +kernel

theorem witness_FrameReceivedIsItsRow : fleet.comms.w.link = .up := by decide +kernel

/-- What OtherFramesForwardedOrCounted calls interpreted. -/
abbrev interpreted (p : Port) (f : Frame) (least : Nat) : Prop :=
  (p = .w ∧ (kindOf f = 5 ∧ least = 4 ∨ kindOf f = 6 ∧ least = 3 ∨ kindOf f = 10 ∧ least = 2 ∨
    kindOf f = 13 ∧ least = 1)) ∨
  (p = .m ∧ (kindOf f = 7 ∧ least = 3 ∨ kindOf f = 8 ∧ least = 2 ∨ kindOf f = 11 ∧ least = 4)) ∨
  (p = .t ∧ (kindOf f = 8 ∧ least = 2 ∨ kindOf f = 9 ∧ least = 4))

theorem witness_OtherFramesForwardedOrCounted :
    fleet.hears .w ∧ (∀ least, ¬interpreted .w (filler 1) least) ∧
    ¬(Port.w = .w ∧ kindOf (filler 1) = 15 ∧ channelOf (filler 1) = fleet.channel.toNat) ∧
    (interpreted .w (frameOf 5 20 (bs [7, 0, 1])) 4 ∧ (frameOf 5 20 (bs [7, 0, 1])).data.length < 4) ∧
    (kindOf (frameOf 15 0 (bs [1])) = 15 ∧ channelOf (frameOf 15 0 (bs [1])) = fleet.channel.toNat ∧
      (frameOf 15 0 (bs [1])).data.length < 2) := by
  have h : kindOf (filler 1) = 20 := by decide
  exact ⟨by decide +kernel, fun least => by simp [interpreted, h], by decide +kernel, by decide +kernel,
    by decide +kernel⟩

theorem witness_LeverSetsShadowsAndDemands :
    fleet.hears .w ∧ 4 ≤ (bs [15, 3, 4, 0]).length ∧ fleet.stationFor (20 : BitVec 6).toNat = some 0 ∧
    fleet.stationFor (21 : BitVec 6).toNat = some 1 ∧
    fleet.station.records[(0 : Fin 4)].seqLever ≠ some (min (byteAt (bs [15, 3, 4, 0]) 0) 15) := by decide +kernel

theorem witness_HelmSetsShadowAndDemand :
    (releasing.hears .w ∧ 3 ≤ (bs [1, 0, 31]).length ∧ releasing.stationFor (20 : BitVec 6).toNat = some 0 ∧
      releasing.station.records[(0 : Fin 4)].seqHelm ≠ some 1 ∧ (0 : Fin 4) = releasing.station.command ∧
      releasing.coup.slot = some 0 ∧ (releasing.couplingEntry 0).hasLock .helmOffCentre = true ∧
      releasing.params.centreWindow < (s16At (bs [1, 0, 31]) 1).natAbs) ∧
    (∀ k, releasing.coup.slot = some k → (releasing.couplingEntry k).hasLock .helmOffCentre = true →
      (s16At (bs [1, 0, 30]) 1).natAbs ≤ releasing.params.centreWindow) ∧
    (releasing.stationFor (21 : BitVec 6).toNat = some 1 ∧ (1 : Fin 4) ≠ releasing.station.command) := by decide +kernel

theorem witness_TakeMovesCommand :
    let s := { fleet with station := { fleet.station with command := 1 } }
    let near := fleet.withStation 1 { StationRecord.blank with lever := #v[64, -64, 0, 0], helm := 60 }
    (s.hears .w ∧ 2 ≤ (bs [1, 1]).length ∧ s.stationFor (20 : BitVec 6).toNat = some 0 ∧
      s.station.records[(0 : Fin 4)].seqTake ≠ some 1 ∧ (0 : Fin 4) ≠ s.station.command ∧ s.coup.slot = none ∧
      byteAt (bs [1, 1]) 1 ≠ 0) ∧
    (near.stationFor (21 : BitVec 6).toNat = some 1 ∧ (1 : Fin 4) ≠ near.station.command ∧ near.coup.slot = none ∧
      (∀ e : Fin 4, near.engineEnabled e = true → (near.station.records[(1 : Fin 4)].lever[e] -
        near.station.records[near.station.command].lever[e]).natAbs ≤ near.params.matchWindow) ∧
      (near.station.records[(1 : Fin 4)].helm - near.station.records[near.station.command].helm).natAbs ≤
        2 * near.params.centreWindow) ∧
    (releasing.stationFor (21 : BitVec 6).toNat = some 1 ∧ releasing.coup.slot ≠ none) := by decide +kernel

theorem witness_RepeatsAndStrangersIgnored :
    let s := fleet.withStation 1 { StationRecord.blank with
      seqLever := some 7, seqHelm := some 7, seqTake := some 7, seqWatch := some 7 }
    s.hears .w ∧ 4 ≤ (bs [7, 0, 1, 44]).length ∧ 3 ≤ (bs [7, 1, 44]).length ∧ 2 ≤ (bs [7, 1]).length ∧
    1 ≤ (bs [7]).length ∧ min (byteAt (bs [7]) 0) 15 = 7 ∧ s.stationFor (21 : BitVec 6).toNat = some 1 ∧
    s.station.records[(1 : Fin 4)].seqLever = some 7 ∧ s.station.records[(1 : Fin 4)].seqHelm = some 7 ∧
    s.station.records[(1 : Fin 4)].seqTake = some 7 ∧ s.station.records[(1 : Fin 4)].seqWatch = some 7 ∧
    s.stationFor (63 : BitVec 6).toNat = none := by decide +kernel

theorem witness_EveryStepKeepsShadows :
    (waiting .pollTimerExpiry fleet).stationsSound = true ∧ ∃ t, step (waiting .pollTimerExpiry fleet) = .next t :=
  ⟨by decide +kernel, _, rfl⟩

theorem witness_GovReportStoresAndTrims :
    fleet.hears .m ∧ 3 ≤ (i16 1372 ++ bs [1]).length := by decide +kernel

/-- A release in hand with BOW_ACTIVE among its interlocks, the bow actuator waiting for its report. -/
def releasingBow : State :=
  let s := ((releasing.withCoupling 0 (couplingAt .made 140 false)).withCoupling 2 (couplingAt .releasing 30 false))
  { (s.withActuator 3 newActuator) with coup := { s.coup with slot := some 2 } }

theorem witness_RudReportAlignsAndSupervises :
    let s := releasingBow
    let takes (p : Port) (ch : BitVec 6) (j : Fin 8) : Prop :=
      (s.actuatorEntry j).port = p ∧ (s.actuatorEntry j).channel = ch.toNat
    (s.hears .t ∧ Port.t ≠ .w ∧ 2 ≤ (i16 4).length ∧ s.coup.slot = some 2 ∧
      (s.couplingEntry 2).hasLock .bowActive = true ∧ s.bowActive = false ∧ takes .t 30 3 ∧
      (∀ k : Fin 8, takes .t 30 k → k = 3) ∧ s.steer.actuators[(3 : Fin 8)] = some newActuator ∧
      newActuator.state = .align ∧ (s.actuatorEntry 3).kind = .bow ∧ s16At (i16 4) 0 ≠ 0) ∧
    (2 ≤ (i16 0).length ∧ ∀ k : Fin 8, takes .t 30 k →
      max (-((s.actuatorEntry k).limit : Int)) (min ((s.actuatorEntry k).limit : Int) (s16At (i16 0) 0)) = 0) ∧
    (fleet.hears .m ∧ fleet.coup.slot = none ∧ fleet.steer.actuators[(0 : Fin 8)] = some (steering 0) ∧
      (steering 0).state = .following) := by decide +kernel

/-- What EngagedReportClassifies and OpenPinCompletesOrParts call named, for T channel `ch` and sub-index `sub`. -/
abbrev couplingIs (s : State) (ch sub : Nat) (k : Fin 48) : Prop :=
  s.coup.records[k] ≠ none ∧ (s.couplingEntry k).channel = ch ∧ (s.couplingEntry k).sub = min 3 sub

theorem witness_EngagedReportClassifies :
    (fleet.hears .t ∧ 4 ≤ (bs [0, 0, 140, 0]).length ∧ ∀ k, ¬couplingIs fleet 63 0 k) ∧
    (couplingIs fleet 13 0 2 ∧ (∀ k < (2 : Fin 48), ¬couplingIs fleet 13 0 k) ∧
      fleet.coup.records[(2 : Fin 48)] = some (couplingAt .made 140 false) ∧ byteAt (bs [0, 0, 140, 0]) 3 = 0) ∧
    (releasing.coup.records[(0 : Fin 48)] = some (couplingAt .releasing 30 false) ∧ releasing.coup.slot = some 0 ∧
      couplingIs releasing 14 2 0 ∧ (releasing.couplingEntry 0).hasLock .underLoad = true ∧
      (releasing.couplingEntry 0).slack ≤ min 4000 (u16At (bs [2, 0, 50, 0]) 1)) ∧
    (let s := fleet.withCoupling 0 (couplingAt .released 0 true)
     couplingIs s 14 2 0 ∧ s.coup.records[(0 : Fin 48)] = some (couplingAt .released 0 true)) := by decide +kernel

theorem witness_OpenPinCompletesOrParts :
    (fleet.hears .t ∧ 4 ≤ (bs [0, 0, 140, 1]).length ∧ couplingIs fleet 13 0 2 ∧
      (∀ k < (2 : Fin 48), ¬couplingIs fleet 13 0 k) ∧
      fleet.coup.records[(2 : Fin 48)] = some (couplingAt .made 140 false) ∧ byteAt (bs [0, 0, 140, 1]) 3 ≠ 0) ∧
    (couplingIs releasing 14 2 0 ∧ releasing.coup.records[(0 : Fin 48)] = some (couplingAt .releasing 30 false)) := by
  decide +kernel

/-- A coupling's contribution, as DerateFollowsWorstCoupling says it. -/
def part (s : State) (i : Fin 48) : Nat :=
  match s.coup.records[i] with
  | none => 0
  | some r =>
    match r.state with
    | .made => 0
    | .released => 0
    | .overload => min 3 ((s.couplingEntry i).crit + 1)
    | .parted => 3
    | _ => (s.couplingEntry i).crit

theorem witness_DerateFollowsWorstCoupling :
    (∀ i, part fleet i ≤ 0) ∧ (∀ i, part slackened i ≤ 1) ∧ part slackened 0 = 1 := by decide +kernel

theorem witness_BowActuatorsFollowTheirCoupling :
    let s := fleet.withCoupling 1 (couplingAt .slack 30 false)
    fleet.steer.actuators[(4 : Fin 8)] = none ∧
    (fleet.steer.actuators[(0 : Fin 8)] = some (steering 0) ∧ (fleet.actuatorEntry 0).kind ≠ .bow) ∧
    (fleet.steer.actuators[(3 : Fin 8)] = some (steering 0) ∧ (fleet.actuatorEntry 3).kind = .bow ∧
      fleet.coup.records[(fleet.actuatorEntry 3).bow] = some (couplingAt .made 140 false)) ∧
    (s.steer.actuators[(3 : Fin 8)] = some (steering 0) ∧
      s.coup.records[(s.actuatorEntry 3).bow] = some (couplingAt .slack 30 false)) := by decide +kernel

theorem witness_AbortAndTimeoutEndRelease :
    let heavy := releasing.withCoupling 0 (couplingAt .releasing 50 false)
    (heavy.coup.slot = some 0 ∧ heavy.coup.records[(0 : Fin 48)] = some (couplingAt .releasing 50 false) ∧
      (heavy.couplingEntry 0).hasLock .underLoad = true ∧ heavy.lockHolds 0 .underLoad = true) ∧
    (releasing.coup.slot = some 0 ∧ releasing.coup.records[(0 : Fin 48)] = some (couplingAt .releasing 30 false) ∧
      releasing.lockHolds 0 .underLoad = false ∧ (releasing.couplingEntry 0).hasLock .bowActive = false ∧
      releasing.restart = none ∧ releasing.coup.releaseTimer ≠ none) := by decide +kernel

theorem witness_PollTimerWalksTheTow :
    let s := { fleet.withCoupling 2 (couplingAt .released 0 true) with coup :=
      { (fleet.withCoupling 2 (couplingAt .released 0 true)).coup with walk := 2 } }
    let gone := { fleet with coup := { fleet.coup with records := Vector.replicate 48 none } }
    (State.reset.restart = none ∧ State.reset.ready .coupling = false) ∧
    (gone.ready .coupling = true ∧ ∀ k < (gone.table .coupling).count, ∀ i : Fin 48, i.val = k →
      gone.coup.records[i] = none) ∧
    (s.ready .coupling = true ∧ 2 < (s.table .coupling).count ∧
      (0 : Fin 48).val = (s.coup.walk + 2) % (s.table .coupling).count ∧
      s.coup.records[(0 : Fin 48)] = some (couplingAt .made 140 false) ∧
      ((s.coup.walk + 0) % (s.table .coupling).count = 2 ∧ (s.coup.walk + 1) % (s.table .coupling).count = 3 ∧
        s.coup.records[(2 : Fin 48)] = some (couplingAt .released 0 true) ∧ s.coup.records[(3 : Fin 48)] = none)) := by
  decide +kernel

theorem witness_TankBookingsLoseNoFuel :
    fleet.fuel.tanks[(0 : Fin 8)] = some (newTank 310) ∧ 1 ≤ 310000 ∧ 310000 ≤ (newTank 310).balance ∧
    (newTank 310).balance < 310001 ∧ (newTank 310).balance + 1690000 ≤ (fleet.tankEntry 0).capacity * 1000 ∧
    (fleet.tankEntry 0).capacity * 1000 < (newTank 310).balance + 1690001 := by decide +kernel

/-- What the FLOW statements call named, for M channel `ch`. -/
abbrev meterIs (s : State) (ch : Nat) (k : Fin 8) : Prop := s.meterInService k = true ∧ (s.meterEntry k).channel = ch

theorem witness_FlowIsMeteredAndBooked :
    let s := fleet.withMeter 1 { MeterRecord.blank with baseline := some 65535 }
    s.hears .m ∧ 4 ≤ (i16 2999 ++ i16 452).length ∧ meterIs s 31 1 ∧ (∀ k < (1 : Fin 8), ¬meterIs s 31 k) ∧
    s.fuel.meters[(1 : Fin 8)].baseline = some 65535 ∧
    (u16At (i16 2999 ++ i16 452) 0 + 65536 - 65535) % 65536 ≤ (s.meterEntry 1).maxDelta := by decide +kernel

theorem witness_FlowBaselineAndGlitch :
    let s := fleet.withMeter 1 { MeterRecord.blank with baseline := some 65535 }
    (s.hears .m ∧ 4 ≤ (i16 3000 ++ i16 452).length ∧ ∀ k, ¬meterIs s 63 k) ∧
    (meterIs s 30 0 ∧ (∀ k < (0 : Fin 8), ¬meterIs s 30 k) ∧ s.fuel.meters[(0 : Fin 8)].baseline = none) ∧
    (meterIs s 31 1 ∧ s.fuel.meters[(1 : Fin 8)].baseline = some 65535 ∧
      (s.meterEntry 1).maxDelta < (u16At (i16 3000 ++ i16 452) 0 + 65536 - 65535) % 65536) := by decide +kernel

theorem witness_BunkerAndTransferMoveFuel :
    let tank (v : Nat) (t : Fin 8) : Prop := v = t.val ∧ fleet.fuel.tanks[t] ≠ none
    fleet.listens ∧ 4 ≤ (bs [0, 0, 7, 208]).length ∧ 5 ≤ (bs [0, 1, 0, 1, 144]).length ∧
    (State.reset.listens ∧ State.reset.ready .tank = false) ∧ fleet.ready .tank = true ∧
    (∀ t, ¬tank (byteAt (bs [2, 0, 7, 208]) 0) t) ∧ tank (byteAt (bs [0, 1, 0, 1, 144]) 0) 0 ∧
    tank (byteAt (bs [0, 1, 0, 1, 144]) 1) 1 ∧ tank (byteAt (bs [1, 1, 0, 1, 144]) 0) 1 ∧
    tank (byteAt (bs [1, 1, 0, 1, 144]) 1) 1 ∧ (0 : Fin 8) ≠ 1 := by decide +kernel

theorem witness_CaptureCopiesTheAccount :
    fleet.listens ∧ fleet.hears .w ∧ 1 ≤ (bs [1]).length ∧ fleet.stationFor (20 : BitVec 6).toNat = some 0 ∧
    fleet.stationFor (22 : BitVec 6).toNat = some 2 ∧ fleet.station.records[(0 : Fin 4)].seqWatch ≠ some 1 := by
  decide +kernel

theorem witness_SnapReadReturnsParts :
    fleet.listens ∧ 1 ≤ (bs [11]).length ∧ 12 ≤ byteAt (bs [12]) 0 ∧ byteAt (bs [11]) 0 ≤ 11 ∧
    fleet.fuel.snapshot = none ∧
    (fleet.capture .mgmt).fuel.snapshot = some { capture := fleet.captured 1 .mgmt, renewal := false } ∧
    ((fleet.capture .mgmt).capture .watch).fuel.snapshot =
      some { capture := (fleet.capture .mgmt).captured 2 .watch, renewal := true } ∧
    (fleet.capture .mgmt).listens ∧ ((fleet.capture .mgmt).capture .watch).listens := by decide +kernel

theorem witness_TableOpenTakesTheSlot :
    (fleet.listens ∧ 2 ≤ (bs [7, 0]).length ∧ 8 ≤ byteAt (bs [8, 0]) 0) ∧
    (loading.listens ∧ loading.mgmt.loadSlot = some .station ∧ byteAt (bs [7, 0]) 0 < 8) ∧
    ((tableNum .route).val = byteAt (bs [7, 0]) 0 ∧ fleet.mgmt.loadSlot = none) ∧
    ((tableNum .engine).val = byteAt (bs [1, 4]) 0 ∧ underWay.listens ∧ underWay.mgmt.loadSlot = none ∧
      ∃ (e : Fin 4) (x : EngineChannel), underWay.prop.channels[e] = some x ∧
        (x.gear = .ahead ∨ x.gear = .astern ∨ x.gear = .slowing)) ∧
    releasing.coup.slot ≠ none :=
  ⟨by decide +kernel, by decide +kernel, by decide +kernel,
    ⟨by decide +kernel, by decide +kernel, by decide +kernel, 0, driving, by decide +kernel, .inl rfl⟩,
    by decide +kernel⟩

theorem witness_TableWriteStoresWords :
    (fleet.listens ∧ fleet.mgmt.loadSlot = none) ∧
    (loading.listens ∧ loading.mgmt.loadSlot = some .station ∧ (bs [1, 2, 3]).length ∉ [2, 4, 6] ∧
      (bs [1, 2]).length ∈ [2, 4, 6] ∧
      loading.mgmt.writeIndex + (bs [1, 2]).length / 2 ≤ (loading.table .station).words.length ∧
      (bs [1, 2, 3, 4]).length ∈ [2, 4, 6] ∧
      (loading.table .station).words.length < loading.mgmt.writeIndex + (bs [1, 2, 3, 4]).length / 2) := by
  decide +kernel

/-- A table of the installation under load with all its words written. -/
def written (t : TableId) (x : Table) : State :=
  { (fleet.withTable t { x with state := .loading }) with mgmt := { (fleet.withTable t { x with state := .loading }).mgmt with
    loadSlot := some t, writeIndex := x.words.length } }

/-- An ENGINE table whose entry 1 has an ahead maximum below its idle. -/
def slowEngine : Table :=
  readyTable 2 [1, 10, 650, 650, 650, 0, 1, 130, 150, 40, 1, 0, 1, 11, 650, 649, 700, 0, 1, 130, 150, 40, 1, 1]

theorem witness_TableCloseChecksInTurn :
    let crc (x : Table) : Nat := ((x.words.flatMap fun w => (List.range 16).map fun k => w.getLsbD (15 - k)).foldl
      (fun (reg : BitVec 16) b => if reg.getLsbD 15 = b then reg <<< 1 else (reg <<< 1) ^^^ 0x1021#16) 0xFFFF#16).toNat
    (fleet.listens ∧ 2 ≤ (bs [0, 0]).length ∧ fleet.mgmt.loadSlot = none) ∧
    (loading.listens ∧ loading.mgmt.loadSlot = some .station ∧
      loading.mgmt.writeIndex ≠ (loading.table .station).words.length) ∧
    (let s := written .engine slowEngine
     s.listens ∧ s.mgmt.loadSlot = some .engine ∧ s.mgmt.writeIndex = (s.table .engine).words.length ∧
     crc (s.table .engine) ≠ u16At (bs [0, 0]) 0 ∧
     crc (s.table .engine) = u16At (fieldOf 2 (crc slowEngine)) 0 ∧ s.contentBreach .engine (s.table .engine) = some 1) ∧
    (let s := written .engine tablesOf[(1 : Fin 8)]
     s.mgmt.writeIndex = (s.table .engine).words.length ∧
     crc (s.table .engine) = u16At (fieldOf 2 (crc tablesOf[(1 : Fin 8)])) 0 ∧
     s.contentBreach .engine (s.table .engine) = none) := by decide +kernel

theorem witness_ContentRulesFindLowestBreach :
    let w (x : Table) (width i k : Nat) : Nat := (x.words.getD (i * width + k) 0).toNat
    let bad (i : Nat) : Prop := i < slowEngine.count ∧
      (w slowEngine 12 i 3 < w slowEngine 12 i 2 ∨ w slowEngine 12 i 4 < w slowEngine 12 i 2)
    (bad 1 ∧ ∀ k < 1, ¬bad k) ∧
    (∀ i < (fleet.table .route).count, ¬w (fleet.table .route) 7 i 3 < w (fleet.table .route) 7 i 2) := by
  decide +kernel

theorem witness_TableReadsReturnWords :
    (fleet.listens ∧ 3 ≤ (bs [0, 0, 8]).length ∧ 8 ≤ byteAt (bs [8, 0, 8]) 0 ∧
      (tableNum .station).val = byteAt (bs [0, 0, 8]) 0 ∧ u16At (bs [0, 0, 8]) 1 < (fleet.table .station).words.length ∧
      (fleet.table .station).words.length ≤ u16At (bs [0, 0, 9]) 1) ∧
    (loading.listens ∧ (loading.table loading.mgmt.readTable).state = .loading) ∧
    ((fleet.table fleet.mgmt.readTable).state ≠ .loading ∧
      fleet.mgmt.readIndex < (fleet.table fleet.mgmt.readTable).words.length) ∧
    ((State.reset.table State.reset.mgmt.readTable).state ≠ .loading ∧
      (State.reset.table State.reset.mgmt.readTable).words.length ≤ State.reset.mgmt.readIndex) := by decide +kernel

theorem witness_ParametersAreRoundedAndClamped :
    let port (x : PortDefault) : Nat := x.egress.toNat + if x.cls = .bulk then 256 else 0
    let read (x : Params) (k : Nat) : Option Nat :=
      [x.propInterval, x.steerInterval, x.leverTimeout, x.leverHold, x.helmTimeout, x.reversalDwell, x.pollInterval,
        x.staleLimit, x.derateHold, x.deratePct1, x.deratePct2, x.deratePct3, x.reservePct, x.releaseTimeout,
        x.matchWindow, x.centreWindow, x.followWindow, x.followCount, x.runFlowLimit, x.syncStep, x.syncLimit,
        x.patienceRoutine, x.patienceBulk, port x.defaultW, port x.defaultM, port x.defaultT, x.noticeEnable.toNat][k]?
    fleet.listens ∧ 5 ≤ (bs [26, 0, 0, 0, 0]).length ∧ 27 ≤ byteAt (bs [27]) 0 ∧
    byteAt (bs [26, 0, 0, 0, 0]) 0 ≤ 26 ∧ byteAt (bs [0, 0, 0, 0, 0]) 0 ≤ 26 ∧
    read fleet.params (byteAt (bs [26]) 0) = some 0xFFFFF ∧ read fleet.params (byteAt (bs [0]) 0) = some 50 := by
  decide +kernel

theorem witness_RecordReadReturnsItems :
    fleet.listens ∧ 3 ≤ (bs [6, 1, 7]).length ∧
    fleet.prop.channels[(0 : Fin 4)] = some idling ∧ (∀ e : Fin 4, e.val = 3 → fleet.prop.channels[e] = none) ∧
    fleet.steer.actuators[(3 : Fin 8)] = some (steering 0) ∧
    (∀ j : Fin 8, j.val = 4 → fleet.steer.actuators[j] = none) ∧
    fleet.coup.records[(2 : Fin 48)] = some (couplingAt .made 140 false) ∧
    (∀ i : Fin 48, i.val = 3 → fleet.coup.records[i] = none) ∧
    fleet.fuel.tanks[(1 : Fin 8)] = some (newTank 39800) ∧ (∀ t : Fin 8, t.val = 2 → fleet.fuel.tanks[t] = none) := by
  decide +kernel

theorem witness_CountersAndNoticesReadAndClear :
    fleet.listens ∧ 2 ≤ (bs [51, 1]).length ∧ 3 ≤ (bs [15, 255, 255]).length ∧ byteAt (bs [51, 1]) 1 ≤ 1 ∧
    byteAt (bs [51, 1]) 0 = 32 + (19 : Fin 20).val ∧ byteAt (bs [5, 0]) 0 = 3 + portNum .t ∧
    52 ≤ byteAt (bs [52, 0]) 0 ∧ 2 ≤ byteAt (bs [51, 2]) 1 := by decide +kernel

theorem witness_CommandsRefusedOrDiscarded :
    fleet.listens ∧ (withDown .w fleet).listens ∧ (bs [0, 0, 0, 0]).length < 5 ∧ (bs []).length < 1 ∧
    replying.replyWait ≠ none := by decide +kernel

theorem witness_ReleaseIsRuledBySixRows :
    (fleet.listens ∧ 1 ≤ (bs [3]).length ∧ ∀ i : Fin 48, i.val = byteAt (bs [3]) 0 → fleet.coup.records[i] = none) ∧
    (fleet.coup.records[(1 : Fin 48)] = some (couplingAt .made 140 false) ∧ (fleet.couplingEntry 1).powered = false) ∧
    (releasing.listens ∧ releasing.coup.records[(2 : Fin 48)] = some (couplingAt .made 140 false) ∧
      (releasing.couplingEntry 2).powered = true ∧ releasing.coup.slot = some 0) ∧
    (let s := fleet.withCoupling 0 (couplingAt .overload 900 false)
     s.coup.records[(0 : Fin 48)] = some (couplingAt .overload 900 false) ∧ (s.couplingEntry 0).powered = true ∧
     s.coup.slot = none) ∧
    ((fleet.couplingEntry 0).locks.getLsbD (interlockCode .underLoad) = true ∧ (fleet.couplingEntry 0).slack ≤ 140 ∧
      fleet.enginesEngaged = false ∧ fleet.helmOffCentre = false) ∧
    (slackened.listens ∧ slackened.coup.records[(0 : Fin 48)] = some (couplingAt .slack 30 false) ∧
      (slackened.couplingEntry 0).powered = true ∧ slackened.coup.slot = none ∧ slackened.firstLock 0 = none) := by
  decide +kernel

theorem witness_DetachAttachPollAndReset :
    (fleet.listens ∧ 1 ≤ (bs [3]).length ∧ ∀ i : Fin 48, i.val = byteAt (bs [3]) 0 → fleet.coup.records[i] = none) ∧
    fleet.coup.records[(0 : Fin 48)] = some (couplingAt .made 140 false) ∧
    (releasing.listens ∧ releasing.coup.records[(0 : Fin 48)] = some (couplingAt .releasing 30 false)) ∧
    (fleet.withCoupling 0 (couplingAt .released 0 true)).coup.records[(0 : Fin 48)] = some (couplingAt .released 0 true) ∧
    (∀ j : Fin 8, j.val = byteAt (bs [4]) 0 → fleet.steer.actuators[j] = none) ∧
    (let broken : Actuator := { steering 40 with state := .fault }
     let s := (fleet.withActuator 3 broken).withCoupling 1 (couplingAt .slack 30 false)
     (fleet.withActuator 3 broken).steer.actuators[(3 : Fin 8)] = some broken ∧
     s.steer.actuators[(3 : Fin 8)] = some broken ∧ (s.actuatorEntry 3).kind = .bow ∧
     s.coup.records[(s.actuatorEntry 3).bow] = some (couplingAt .slack 30 false)) := by decide +kernel

theorem witness_RestartCommandWaitsForReply :
    (let s := withW (fun u => { u with bulk := fillers 7 }) fleet
     s.listens ∧ s.comms.w.link = .up ∧ s.comms.w.bulk.length < 8) ∧
    (wFull.listens ∧ 8 ≤ wFull.comms.w.bulk.length) ∧
    ((withDown .w fleet).listens ∧ (withDown .w fleet).comms.w.link = .down) := by decide +kernel

theorem witness_PowerOnResetGivesPowerOnValues :
    ({ fleet with restart := some .powerOn } : State).restart = some .powerOn := rfl

theorem witness_WarmRestartKeepsTheAccount :
    let s := { underWay with restart := some .warm }
    underWay.restart = none ∧ s.restart = some .warm ∧ s.engineEnabled 0 = true ∧ s.engineEnabled 3 = false ∧
    s.ready .actuator = true ∧ s.steer.actuators[(0 : Fin 8)] = some (steering 0) ∧
    s.steer.actuators[(4 : Fin 8)] = none ∧ s.ready .coupling = true ∧ State.reset.ready .coupling = false := by
  decide +kernel

theorem witness_SteppingCarriesItsRemainder :
    let r : Ramped := { pos := 800, rem := 500, dir := .falling }
    (800 : Int) = r.pos ∧ ((793 : Int) ≠ r.pos ∧ ((793 : Int) - r.pos).natAbs ≤ (500 + 150 * 50) / 1000) ∧
    (r.pos < 1000 ∧ (((0 + 130 * 50) / 1000 : Nat) : Int) < 1000 - r.pos) ∧
    ((791 : Int) < r.pos ∧ (((500 + 150 * 50) / 1000 : Nat) : Int) < r.pos - 791) := by decide

theorem witness_GearStepNeverReversesAtOnce :
    driving.gear = .ahead ∧ idling.gear = .neutral ∧ driving.engaged = .ahead ∧
    ({ driving with gear := .slowing } : EngineChannel).gear = .slowing ∧
    ({ idling with gear := .dwell } : EngineChannel).gear = .dwell := by decide

/-- The channels of the installation at rest after pass 1 of RampTimerRunsThreePasses. -/
def passOneOf (s : State) : Vector (Option EngineChannel) 4 :=
  let lever (e : Fin 4) (c : EngineChannel) : Int := if c.fresh = .idled then 0 else s.station.lever[e]
  let dir (e : Fin 4) (c : EngineChannel) : Direction :=
    if ((s.engineEntry e).deadband : Int) < lever e c then .ahead
    else if lever e c < -((s.engineEntry e).deadband : Int) then .astern else .neutral
  remap s.prop.channels fun e c => c.map fun c => s.setpoint e s.coup.level s.prop.rampTimer (lever e c) (dir e c)
    (c.gearStep (s.engineEntry e).idle s.params.reversalDwell (dir e c))

/-- At rest no group is found active and every trim is 0: the values RampTimerRunsThreePasses asks for exist. -/
theorem witness_RampTimerRunsThreePasses :
    let s := fleet
    let one := passOneOf s
    let member (g : Nat) (e : Fin 4) (c : EngineChannel) : Prop := one[e] = some c ∧ (s.engineEntry e).group = g
    let lead (g : Nat) (k : Fin 4) : Prop := (∃ c, member g k c) ∧ ∀ j < k, ¬∃ c, member g j c
    let unison (g : Nat) (d : Direction) : Prop :=
      (∃ k j c, lead g k ∧ member g j c ∧ j ≠ k) ∧ ∃ target, ∀ k c, member g k c →
        c.fresh = .live ∧ c.lastTarget = target ∧ (d = .ahead ∧ c.gear = .ahead ∨ d = .astern ∧ c.gear = .astern)
    s.restart = none ∧ (∀ d, (none : Option Direction) = some d ↔ unison 1 d) ∧
    (∀ d, (none : Option Direction) = some d ↔ unison 2 d) ∧ s.coup.slot = none ∧
    ∀ (e : Fin 4) (c : EngineChannel), one[e] = some c → c.trim = 0 := by
  intro s one member lead unison
  have first : ∃ c : EngineChannel, one[(0 : Fin 4)] = some c ∧ c.fresh = .idled :=
    ⟨(one[(0 : Fin 4)]).get (by decide +kernel), by decide +kernel, by decide +kernel⟩
  have groups : (s.engineEntry 0).group = 1 ∧ ∀ k, (s.engineEntry k).group ≠ 2 := by decide +kernel
  have trims : ∀ e : Fin 4, (one[e]).map (fun c => c.trim) = none ∨ (one[e]).map (fun c => c.trim) = some 0 := by
    decide +kernel
  refine ⟨by decide +kernel, fun d => ⟨(fun h => nomatch h), fun h => ?_⟩, fun d => ⟨(fun h => nomatch h), fun h => ?_⟩,
    by decide +kernel, fun e c h => ?_⟩
  · obtain ⟨c, hc, hf⟩ := first
    obtain ⟨-, target, all⟩ := h
    exact absurd (all 0 c ⟨hc, groups.1⟩).1 (by simp [hf])
  · obtain ⟨⟨k, j, c, -, hm, -⟩, -⟩ := h
    exact absurd hm.2 (groups.2 j)
  · simpa [h] using trims e

theorem witness_EngineAndHelmTimersExpire :
    (let c : EngineChannel := { idling with gear := .dwell, dwellTimer := some 2000 }
     let s := fleet.withChannel 1 c
     s.restart = none ∧ s.prop.channels[(1 : Fin 4)] = some c ∧ c.gear = .dwell ∧ c.dwellTimer ≠ none) ∧
    (underWay.prop.channels[(0 : Fin 4)] = some driving ∧ driving.freshTimer ≠ none) ∧
    (let c : EngineChannel := { driving with fresh := .holding, freshTimer := none, holdTimer := some 3000 }
     (fleet.withChannel 0 c).prop.channels[(0 : Fin 4)] = some c ∧ c.holdTimer ≠ none) ∧
    ({ fleet with steer := { fleet.steer with helmTimer := some 500 } } : State).steer.helmTimer ≠ none := by
  decide +kernel

theorem witness_SteeringTimerStepsEveryActuator : (fleet.withHelm 300).restart = none := by decide +kernel

/-- One state that meets the premises of every invariant statement, and takes a step. -/
theorem witness_EveryStepKeeps :
    let s := waiting .pollTimerExpiry releasing
    (s.tablesSound = true ∧ s.recordsSound = true ∧ s.steeringSound = true ∧ s.derateSound = true ∧
      s.releaseSound = true ∧ s.tanksSound = true ∧ s.channelsSound = true) ∧
    ∃ t, step s = .next t := ⟨by decide +kernel, _, rfl⟩

end Sys2Proof.Tests
end

section
/-! PROOF. The invariant of one port unit (R10, R12, R15, R16, R20, R21, R23) and what keeps it: the arbiter, the joins, the
end of a transmission, a link loss. -/

namespace Sys2Proof.Machine

/-! ### The invariant of a port unit, field by field -/

/-- A port unit as an operation may leave it before the arbiter has acted: `PortUnit.sound` but for an idle UP port, which
may hold frames. -/
structure PortUnit.Settled (p : PortUnit) : Prop where
  urgentCap : p.urgent.length ≤ Config.urgentCap
  routineCap : p.routine.length ≤ Config.routineCap
  bulkCap : p.bulk.length ≤ Config.bulkCap
  keys : (p.urgentWaiting.map keyOf).Nodup
  flight : p.flightSound = true
  passedRoutine : p.passedRoutine ≤ Config.passedMax
  passedBulk : p.passedBulk ≤ Config.passedMax
  malformed : p.malformed ≤ Config.counterMax
  frameLoss : p.frameLoss ≤ Config.counterMax
  down : p.link = .down → p.inFlight = none ∧ p.routine = [] ∧ p.bulk = []

/-- `PortUnit.sound` as a proposition with named parts. -/
structure PortUnit.Sound (p : PortUnit) : Prop extends p.Settled where
  idle : p.link = .up → p.inFlight = none → p.urgent = [] ∧ p.routine = [] ∧ p.bulk = []

theorem PortUnit.holdsFrame_iff (p : PortUnit) :
    p.holdsFrame = false ↔ p.urgent = [] ∧ p.routine = [] ∧ p.bulk = [] := by
  simp [PortUnit.holdsFrame, and_assoc]

theorem PortUnit.sound_iff (p : PortUnit) : p.sound = true ↔ p.Sound := by
  constructor
  · intro h
    simp only [PortUnit.sound, Bool.and_eq_true, decide_eq_true_eq] at h
    obtain ⟨⟨⟨⟨⟨⟨⟨⟨⟨hu, hr⟩, hb⟩, hk⟩, hf⟩, hpr⟩, hpb⟩, hm⟩, hl⟩, hlink⟩ := h
    refine ⟨⟨hu, hr, hb, hk, hf, hpr, hpb, hm, hl, fun hd => ?_⟩, fun hup hi => ?_⟩
    · simpa [hd, and_assoc] using hlink
    · simpa [hup, hi, PortUnit.holdsFrame_iff] using hlink
  · rintro ⟨⟨hu, hr, hb, hk, hf, hpr, hpb, hm, hl, hdown⟩, hidle⟩
    simp only [PortUnit.sound, Bool.and_eq_true, decide_eq_true_eq]
    refine ⟨⟨⟨⟨⟨⟨⟨⟨⟨hu, hr⟩, hb⟩, hk⟩, hf⟩, hpr⟩, hpb⟩, hm⟩, hl⟩, ?_⟩
    cases hlink : p.link with
    | up =>
      cases hi : p.inFlight with
      | none => simpa [PortUnit.holdsFrame_iff] using hidle hlink hi
      | some c => rfl
    | down => simpa [and_assoc] using hdown hlink

/-! ### The frame in flight and the waiting frames of URGENT -/

theorem PortUnit.urgentWaiting_of_flight {p : PortUnit} (h : p.inFlight = some .urgent) :
    p.urgentWaiting = p.urgent.drop 1 := by
  simp [PortUnit.urgentWaiting, h]

theorem PortUnit.urgentWaiting_of_not_flight {p : PortUnit} (h : p.inFlight ≠ some .urgent) :
    p.urgentWaiting = p.urgent := by
  simp [PortUnit.urgentWaiting, h]

/-- The queue of the frame in flight holds it. -/
theorem PortUnit.Settled.holds_flight {p : PortUnit} (h : p.Settled) :
    (p.inFlight = some .urgent → p.urgent ≠ []) ∧ (p.inFlight = some .routine → p.routine ≠ []) ∧
      (p.inFlight = some .bulk → p.bulk ≠ []) := by
  have hf := h.flight
  unfold PortUnit.flightSound at hf
  refine ⟨fun hi => ?_, fun hi => ?_, fun hi => ?_⟩ <;> simpa [hi] using hf

theorem PortUnit.flightSound_intro {p : PortUnit} (hu : p.inFlight = some .urgent → p.urgent ≠ [])
    (hr : p.inFlight = some .routine → p.routine ≠ []) (hb : p.inFlight = some .bulk → p.bulk ≠ []) :
    p.flightSound = true := by
  unfold PortUnit.flightSound
  split <;> simp_all

/-- A frame in flight of URGENT is the head of the queue, and the frames behind it wait (R12). -/
theorem PortUnit.Settled.urgent_flight {p : PortUnit} (h : p.Settled) (hi : p.inFlight = some .urgent) :
    ∃ f, p.urgent = f :: p.urgentWaiting ∧ p.urgentInFlight = [f] := by
  obtain ⟨f, rest, hu⟩ := List.exists_cons_of_ne_nil (h.holds_flight.1 hi)
  exact ⟨f, by simp [PortUnit.urgentWaiting, hi, hu], by simp [PortUnit.urgentInFlight, hi, hu]⟩

theorem PortUnit.urgentInFlight_of_not_flight {p : PortUnit} (h : p.inFlight ≠ some .urgent) :
    p.urgentInFlight = [] := by
  simp [PortUnit.urgentInFlight, h]

/-! ### The arbiter (R15 to R17) -/

theorem passedOver_le (queue : List Frame) {n : Nat} (h : n ≤ Config.passedMax) :
    passedOver queue n ≤ Config.passedMax := by
  unfold passedOver satAdd
  split <;> omega

theorem PortUnit.granted_passedRoutine_le (c : QueueClass) {p : PortUnit} (h : p.passedRoutine ≤ Config.passedMax) :
    (p.granted c).passedRoutine ≤ Config.passedMax := by
  cases c with
  | urgent => exact passedOver_le _ h
  | routine => exact Nat.zero_le _
  | bulk => exact h

theorem PortUnit.granted_passedBulk_le (c : QueueClass) {p : PortUnit} (h : p.passedBulk ≤ Config.passedMax) :
    (p.granted c).passedBulk ≤ Config.passedMax := by
  cases c with
  | urgent => exact passedOver_le _ h
  | routine => exact passedOver_le _ h
  | bulk => exact Nat.zero_le _

/-- A grant to a class that holds a frame leaves the port sound: the port is no longer idle. -/
theorem PortUnit.Settled.granted {p : PortUnit} (h : p.Settled) (hup : p.link = .up) (hi : p.inFlight = none)
    {c : QueueClass} (hc : (c = .urgent → p.urgent ≠ []) ∧ (c = .routine → p.routine ≠ []) ∧ (c = .bulk → p.bulk ≠ [])) :
    (p.granted c).Sound := by
  have hwait : (p.granted c).urgentWaiting.Sublist p.urgentWaiting := by
    rw [PortUnit.urgentWaiting_of_not_flight (p := p) (by simp [hi])]
    unfold PortUnit.urgentWaiting
    split
    · simpa using List.drop_sublist 1 p.urgent
    · simp
  exact {
    urgentCap := by simpa using h.urgentCap
    routineCap := by simpa using h.routineCap
    bulkCap := by simpa using h.bulkCap
    keys := (hwait.map keyOf).nodup h.keys
    flight := PortUnit.flightSound_intro (by simpa using hc.1) (by simpa using hc.2.1) (by simpa using hc.2.2)
    passedRoutine := PortUnit.granted_passedRoutine_le c h.passedRoutine
    passedBulk := PortUnit.granted_passedBulk_le c h.passedBulk
    malformed := by simpa using h.malformed
    frameLoss := by simpa using h.frameLoss
    down := by simp [hup]
    idle := by simp }

/-- The arbiter's decision makes a settled port sound (R16). -/
theorem PortUnit.Settled.grant {p : PortUnit} (h : p.Settled) (e : Env) : (p.grant e).Sound := by
  by_cases hg : p.link = .up ∧ p.inFlight = none ∧ p.holdsFrame = true
  · rw [PortUnit.grant_some e p hg]
    obtain ⟨hup, hi, hold⟩ := hg
    exact h.granted hup hi (PortUnit.chosen_holds e p hold)
  · rw [PortUnit.grant_none e p hg]
    refine ⟨h, fun hup hi => p.holdsFrame_iff.mp ?_⟩
    simpa [hup, hi] using hg

/-! ### Joining, replacing and withdrawing (R11 to R14) -/

/-- A frame at the tail of a ROUTINE or BULK queue below its capacity, on an UP port (R11). -/
theorem PortUnit.Sound.pushLow {p : PortUnit} (h : p.Sound) (c : LowClass) (f : Frame) (hup : p.link = .up)
    (hroom : (p.lowQueue c).length < lowCap c) : (p.pushLow c f).Settled := by
  obtain ⟨hu, hr, hb⟩ := h.holds_flight
  cases c with
  | routine =>
    exact { h.toSettled with
      routineCap := List.length_append.trans_le hroom
      flight := PortUnit.flightSound_intro hu (by simp [PortUnit.pushLow]) hb
      down := by simp [PortUnit.pushLow, hup] }
  | bulk =>
    exact { h.toSettled with
      bulkCap := List.length_append.trans_le hroom
      flight := PortUnit.flightSound_intro hu hr (by simp [PortUnit.pushLow])
      down := by simp [PortUnit.pushLow, hup] }

/-- A frame of a key that no waiting frame has, at the tail of URGENT below its capacity (R12). -/
theorem PortUnit.Sound.pushUrgent {p : PortUnit} (h : p.Sound) (f : Frame)
    (hkey : p.urgentWaiting.any (fun g => keyOf g = keyOf f) = false) (hroom : p.urgent.length < Config.urgentCap) :
    ({ p with urgent := p.urgent ++ [f] } : PortUnit).Settled := by
  obtain ⟨-, hr, hb⟩ := h.holds_flight
  have hwait : ({ p with urgent := p.urgent ++ [f] } : PortUnit).urgentWaiting = p.urgentWaiting ++ [f] := by
    by_cases hi : p.inFlight = some .urgent
    · obtain ⟨g, hg, -⟩ := h.urgent_flight hi
      rw [PortUnit.urgentWaiting_of_flight (by exact hi), hg]
      rfl
    · rw [PortUnit.urgentWaiting_of_not_flight (by exact hi), PortUnit.urgentWaiting_of_not_flight hi]
  exact { h.toSettled with
    urgentCap := by simpa using hroom
    keys := by
      rw [hwait, List.map_append, List.nodup_append]
      simp only [List.any_eq_false, decide_eq_true_eq] at hkey
      exact ⟨h.keys, by simp, by simpa using fun g hg => hkey g hg⟩
    flight := PortUnit.flightSound_intro (by simp) hr hb }

/-- Other frames waiting in URGENT, no more than before and no two of one key; the frame in flight stays. -/
theorem PortUnit.Sound.rewait {p : PortUnit} (h : p.Sound) {l : List Frame} (hkeys : (l.map keyOf).Nodup)
    (hlen : l.length ≤ p.urgentWaiting.length) :
    ({ p with urgent := p.urgentInFlight ++ l } : PortUnit).Sound := by
  obtain ⟨-, hr, hb⟩ := h.holds_flight
  have hcap : (p.urgentInFlight ++ l).length ≤ p.urgent.length := by
    rw [← p.urgent_split, List.length_append, List.length_append]
    omega
  have hwait : ({ p with urgent := p.urgentInFlight ++ l } : PortUnit).urgentWaiting = l := by
    by_cases hi : p.inFlight = some .urgent
    · obtain ⟨g, -, hg⟩ := h.urgent_flight hi
      rw [PortUnit.urgentWaiting_of_flight (by exact hi), hg]
      rfl
    · rw [PortUnit.urgentWaiting_of_not_flight (by exact hi), PortUnit.urgentInFlight_of_not_flight hi]
      rfl
  exact { h with
    urgentCap := hcap.trans h.urgentCap
    keys := hwait.symm ▸ hkeys
    flight := PortUnit.flightSound_intro
      (fun hi => by obtain ⟨g, -, hg⟩ := h.urgent_flight hi; simp [hg]) hr hb
    idle := fun hup hi => by
      obtain ⟨hu, hrest⟩ := h.idle hup hi
      rw [hu] at hcap
      exact ⟨List.eq_nil_of_length_eq_zero (Nat.le_zero.mp hcap), hrest⟩ }

theorem PortUnit.Sound.joinLow {p u : PortUnit} (h : p.Sound) {e : Env} {c : LowClass} {f : Frame}
    (hj : p.joinLow e c f = some u) : u.Sound := by
  rcases PortUnit.joinLow_cases e c f p with ⟨hup, hroom, heq⟩ | ⟨-, heq⟩
  · obtain rfl := Option.some.inj (heq.symm.trans hj)
    exact (h.pushLow c f hup hroom).grant e
  · exact absurd (heq.symm.trans hj) (by simp)

theorem PortUnit.Sound.joinUrgent {p u : PortUnit} (h : p.Sound) {e : Env} {f : Frame}
    (hj : p.joinUrgent e f = some u) : u.Sound := by
  rcases PortUnit.joinUrgent_cases e f p with ⟨-, heq⟩ | ⟨hkey, hroom, heq⟩ | ⟨-, -, heq⟩
  · obtain rfl := Option.some.inj (heq.symm.trans hj)
    exact h.rewait (by rw [replaceKey_keys]; exact h.keys) (replaceKey_length f _).le
  · obtain rfl := Option.some.inj (heq.symm.trans hj)
    exact (h.pushUrgent f hkey hroom).grant e
  · exact absurd (heq.symm.trans hj) (by simp)

theorem PortUnit.Sound.withdraw {p : PortUnit} (h : p.Sound) (key : BitVec 11 × Option Byte) :
    (p.withdraw key).Sound :=
  h.rewait ((List.filter_sublist.map keyOf).nodup h.keys) (List.length_filter_le _ _)

/-! ### Counters -/

theorem satAdd_le (top n k : Nat) : satAdd top n k ≤ top := Nat.min_le_left _ _

theorem PortUnit.Sound.countLoss {p : PortUnit} (h : p.Sound) : p.countLoss.Sound :=
  { h with frameLoss := satAdd_le _ _ _ }

theorem PortUnit.Sound.countMalformed {p : PortUnit} (h : p.Sound) : p.countMalformed.Sound :=
  { h with malformed := satAdd_le _ _ _ }

/-! ### Sending, losing and restoring (R19, R20, R22, R24) -/

/-- A frame that has left its queue leaves an idle port to the arbiter (R19). -/
theorem PortUnit.Sound.sent {p : PortUnit} (h : p.Sound) : p.sent.Settled := by
  rcases p.sent_cases with ⟨-, heq⟩ | ⟨hi, heq⟩ | ⟨hi, heq⟩ | ⟨hi, heq⟩ <;> rw [heq]
  · exact h.toSettled
  · exact { h.toSettled with
      urgentCap := (List.drop_sublist ..).length_le.trans h.urgentCap
      keys := by simpa [PortUnit.urgentWaiting, hi] using h.keys
      flight := rfl
      down := fun hd => ⟨rfl, (h.down hd).2⟩ }
  · exact { h.toSettled with
      routineCap := (List.drop_sublist ..).length_le.trans h.routineCap
      keys := by simpa [PortUnit.urgentWaiting, hi] using h.keys
      flight := rfl
      down := fun hd => by simp [h.down hd] }
  · exact { h.toSettled with
      bulkCap := (List.drop_sublist ..).length_le.trans h.bulkCap
      keys := by simpa [PortUnit.urgentWaiting, hi] using h.keys
      flight := rfl
      down := fun hd => by simp [h.down hd] }

/-- After a link loss the abandoned frame stands in URGENT only when no waiting frame has its key (R20, step 1). -/
theorem PortUnit.Sound.urgentAfterLoss {p : PortUnit} (h : p.Sound) :
    (p.urgentAfterLoss.map keyOf).Nodup ∧ p.urgentAfterLoss.length ≤ p.urgent.length := by
  unfold PortUnit.urgentAfterLoss
  by_cases hi : p.inFlight = some .urgent
  · obtain ⟨f, hu, hf⟩ := h.urgent_flight hi
    rw [hf]
    dsimp only
    split
    · exact ⟨h.keys, by simp [hu]⟩
    · rename_i hkey
      refine ⟨?_, le_rfl⟩
      rw [hu, List.map_cons, List.nodup_cons]
      exact ⟨by simpa using hkey, h.keys⟩
  · rw [PortUnit.urgentInFlight_of_not_flight hi]
    exact ⟨PortUnit.urgentWaiting_of_not_flight hi ▸ h.keys, le_rfl⟩

theorem PortUnit.Sound.lost {p : PortUnit} (h : p.Sound) : p.lost.Sound where
  urgentCap := h.urgentAfterLoss.2.trans h.urgentCap
  routineCap := Nat.zero_le _
  bulkCap := Nat.zero_le _
  keys := by simpa [PortUnit.urgentWaiting, PortUnit.lost] using h.urgentAfterLoss.1
  flight := rfl
  passedRoutine := Nat.zero_le _
  passedBulk := Nat.zero_le _
  malformed := h.malformed
  frameLoss := satAdd_le _ _ _
  down _ := ⟨rfl, rfl, rfl⟩
  idle hup := nomatch hup

theorem PortUnit.Sound.restored {p : PortUnit} (h : p.Sound) : ({ p with link := .up } : PortUnit).Settled :=
  { h.toSettled with down := fun hd => nomatch hd }

theorem PortUnit.restarted_sound (rate : BitVec 2) : (PortUnit.restarted rate).Sound :=
  (PortUnit.sound_iff _).mp rfl

end Sys2Proof.Machine
end

section
/-! PROOF. Every operation keeps the three ports sound: first the shared operations on the ports and the notice unit,
then the units in the order of the model, then the events, and at the end the step (EveryStepKeepsPorts). Operations that
touch no port have the `_comms` lemmas of Sys2Proof/Laws. -/

namespace Sys2Proof.Machine

/-! ### The three ports -/

/-- The three port units are sound. -/
def Comms.Sound (c : Comms) : Prop := ∀ p : Port, (c.port p).Sound

theorem State.portsSound_iff (s : State) : s.portsSound = true ↔ s.comms.Sound := by
  simp only [State.portsSound, Bool.and_eq_true, PortUnit.sound_iff]
  constructor
  · rintro ⟨⟨hw, hm⟩, ht⟩ p
    cases p with
    | w => exact hw
    | m => exact hm
    | t => exact ht
  · exact fun h => ⟨⟨h .w, h .m⟩, h .t⟩

theorem Comms.Sound.setPort {c : Comms} (h : c.Sound) (p : Port) {u : PortUnit} (hu : u.Sound) :
    (c.setPort p u).Sound := by
  intro q
  rw [Comms.setPort_port]
  split
  · exact hu
  · exact h q

theorem Comms.Sound.withNotices {c : Comms} (h : c.Sound) (v : Vector Notice 20) :
    ({ c with notices := v } : Comms).Sound
  | .w => h .w
  | .m => h .m
  | .t => h .t

theorem Comms.sound_closed (e : Env) : Comms.Closed e Comms.Sound where
  record _ _ _ h := h.withNotices _
  loss _ p h := h.setPort p (h p).countLoss
  low _ p _ _ _ h hj := h.setPort p ((h p).joinLow hj)
  urgent _ p _ _ h hj := h.setPort p ((h p).joinUrgent hj)

theorem Comms.restarted_sound (straps : Straps) : (Comms.restarted straps).Sound := by
  intro p
  cases p <;> exact PortUnit.restarted_sound _

/-- A fold keeps the ports sound when each step does. -/
theorem foldl_ports {α : Type} {f : State → α → State} (hf : ∀ s x, s.comms.Sound → (f s x).comms.Sound) (l : List α)
    {s : State} (h : s.comms.Sound) : (l.foldl f s).comms.Sound :=
  List.foldlRecOn l f h fun s hs x _ => hf s x hs

section Keeping

variable {s : State}

theorem State.raise_ports (k : NoticeKind) (i : Nat) (h : s.comms.Sound) : (s.raise k i).comms.Sound :=
  (Comms.sound_closed _).raise k i h

theorem State.offerLow_ports (p : Port) (c : LowClass) (f : Frame) (h : s.comms.Sound) :
    (s.offerLow p c f).comms.Sound :=
  (Comms.sound_closed _).offerLow p c f h

theorem State.offerUrgent_ports (p : Port) (f : Frame) (h : s.comms.Sound) : (s.offerUrgent p f).comms.Sound :=
  (Comms.sound_closed _).offerUrgent p f h

theorem State.withdraw_ports (p : Port) (key : BitVec 11 × Option Byte) (h : s.comms.Sound) :
    (s.withdraw p key).comms.Sound :=
  h.setPort p ((h p).withdraw key)

theorem State.onPort_ports (p : Port) {f : PortUnit → PortUnit} (hf : ∀ u : PortUnit, u.Sound → (f u).Sound)
    (h : s.comms.Sound) : (s.onPort p f).comms.Sound :=
  h.setPort p (hf _ (h p))

/-! ### Steering, derate and release (chapters 5 to 7) -/

theorem State.gateActuator_ports (j : Fin 8) (h : s.comms.Sound) : (s.gateActuator j).comms.Sound := by
  unfold State.gateActuator
  split
  · exact h
  · split
    · exact h
    · split
      · split <;> exact h
      · split
        · exact h
        · exact State.withdraw_ports (s := s.withActuator j _) .t _ h

theorem State.tellSteering_ports (h : s.comms.Sound) : s.tellSteering.comms.Sound :=
  foldl_ports (fun _ j => State.gateActuator_ports j) _ h

theorem State.applyDerate_ports (h : s.comms.Sound) : s.applyDerate.comms.Sound := by
  unfold State.applyDerate
  split
  · exact State.raise_ports _ _ h
  · split <;> exact h

theorem State.afterChange_ports (h : s.comms.Sound) : s.afterChange.comms.Sound :=
  State.tellSteering_ports (State.applyDerate_ports h)

theorem State.classified_ports (i : Fin 48) (r : CouplingRecord) (h : s.comms.Sound) :
    (s.classified i r).comms.Sound := by
  unfold State.classified
  dsimp only
  split
  · exact State.raise_ports _ _ h
  · exact h

theorem State.parted_ports (i : Fin 48) (r : CouplingRecord) (h : s.comms.Sound) : (s.parted i r).comms.Sound :=
  State.raise_ports (s := s.withCoupling i _) _ _ h

theorem State.classifyLast_ports (i : Fin 48) (h : s.comms.Sound) : (s.classifyLast i).comms.Sound := by
  unfold State.classifyLast
  split
  · exact h
  · split
    · exact State.parted_ports _ _ h
    · exact State.classified_ports _ _ h

/-- The end of a release by HOLD, told as `k`: the common shape of R140 and R141. -/
theorem State.endRelease_ports (i : Fin 48) (k : NoticeKind) (h : s.comms.Sound) :
    (((((s.offerUrgent .t (s.coupleCmd i cmdHold)).stopRelease).classifyLast i).emptySlot.afterChange).raise
      k i.val).comms.Sound :=
  State.raise_ports _ _ (State.afterChange_ports (s := State.emptySlot _)
    (State.classifyLast_ports (s := State.stopRelease _) i (State.offerUrgent_ports .t _ h)))

theorem State.abortRelease_ports (i : Fin 48) (h : s.comms.Sound) : (s.abortRelease i).comms.Sound :=
  State.endRelease_ports i .releaseAborted h

theorem State.failRelease_ports (i : Fin 48) (h : s.comms.Sound) : (s.failRelease i).comms.Sound :=
  State.endRelease_ports i .releaseFailed h

theorem State.checkLock_ports (c : Interlock) (h : s.comms.Sound) : (s.checkLock c).comms.Sound := by
  rcases State.checkLock_cases c s with heq | ⟨i, -, -, -, heq⟩ <;> rw [heq]
  · exact h
  · exact State.abortRelease_ports i h

theorem State.watchBow_ports (before : State) (h : s.comms.Sound) : (State.watchBow before s).comms.Sound := by
  rcases State.watchBow_cases before s with heq | heq <;> rw [heq]
  · exact h
  · exact State.checkLock_ports _ h

theorem State.completeRelease_ports (i : Fin 48) (r : CouplingRecord) (h : s.comms.Sound) :
    (s.completeRelease i r).comms.Sound :=
  State.raise_ports _ _
    (State.afterChange_ports (s := ((s.withCoupling i { r with state := .released }).stopRelease).emptySlot) h)

theorem State.reportOpen_ports (i : Fin 48) (r : CouplingRecord) (h : s.comms.Sound) :
    (s.reportOpen i r).comms.Sound := by
  have hparted := State.afterChange_ports (State.parted_ports i r h)
  unfold State.reportOpen
  split
  · exact State.completeRelease_ports i r h
  · exact h
  · exact h
  all_goals exact hparted

theorem State.reclassified_ports (i : Fin 48) (r : CouplingRecord) (h : s.comms.Sound) :
    (s.reclassified i r).comms.Sound := by
  unfold State.reclassified
  split
  · exact h
  · exact State.afterChange_ports (State.classified_ports i r h)

theorem State.reportEngaged_ports (i : Fin 48) (r : CouplingRecord) (h : s.comms.Sound) :
    (s.reportEngaged i r).comms.Sound := by
  unfold State.reportEngaged
  split
  · exact h
  · exact State.checkLock_ports _ h
  all_goals exact State.reclassified_ports i r h

theorem State.takeCoupleReport_ports (ch : Nat) (data : List Byte) (h : s.comms.Sound) :
    (s.takeCoupleReport ch data).comms.Sound := by
  unfold State.takeCoupleReport State.reportCoupling
  dsimp only
  split
  · exact h
  · split
    · exact h
    · split
      · exact State.reportOpen_ports _ _ h
      · exact State.reportEngaged_ports _ _ h

theorem State.pollStep_ports (h : s.comms.Sound) : s.pollStep.comms.Sound := by
  unfold State.pollStep
  split
  · exact h
  · exact State.offerLow_ports _ _ _ h

theorem State.staleStep_ports (i : Fin 48) (h : s.comms.Sound) : (s.staleStep i).comms.Sound := by
  unfold State.staleStep
  split
  · exact h
  · split
    · exact State.afterChange_ports (State.raise_ports (s := s.withCoupling i _) _ _ h)
    · exact h

theorem State.ageStep_ports (h : s.comms.Sound) : s.ageStep.comms.Sound :=
  foldl_ports (fun _ i => State.staleStep_ports i) _ (by simpa using h)

theorem State.holdStep_ports (h : s.comms.Sound) : s.holdStep.comms.Sound := by
  unfold State.holdStep
  dsimp only
  split
  · split
    · exact State.raise_ports _ _ h
    · exact h
  · exact h

theorem State.pollExpiry_ports (h : s.comms.Sound) : s.pollExpiry.comms.Sound := by
  unfold State.pollExpiry
  dsimp only
  split
  · exact State.holdStep_ports (State.ageStep_ports (State.pollStep_ports h))
  · exact h

theorem State.acceptRelease_ports (i : Fin 48) (r : CouplingRecord) (h : s.comms.Sound) :
    (s.acceptRelease i r).comms.Sound :=
  State.afterChange_ports (State.offerUrgent_ports (s := State.withCoupling i _ _) .t _ h)

theorem State.createCouplings_ports (h : s.comms.Sound) : s.createCouplings.comms.Sound := State.afterChange_ports h

theorem State.dropCouplings_ports (h : s.comms.Sound) : s.dropCouplings.comms.Sound := State.tellSteering_ports h

theorem State.createActuators_ports (h : s.comms.Sound) : s.createActuators.comms.Sound := State.tellSteering_ports h

/-! ### The fuel unit (chapters 8 and 9) -/

theorem State.evaluated_ports (t : Fin 8) (r : TankRecord) (h : s.comms.Sound) : (s.evaluated t r).comms.Sound := by
  unfold State.evaluated
  dsimp only
  split
  · exact State.raise_ports _ _ h
  · exact h

theorem State.debitTank_ports (t : Fin 8) (d : Nat) (h : s.comms.Sound) : (s.debitTank t d).comms.Sound := by
  unfold State.debitTank
  split
  · exact h
  · split
    · exact h
    · split
      · exact State.evaluated_ports t _ (State.raise_ports (s := s.withTank t _) _ _ h)
      · exact State.evaluated_ports t _ h

theorem State.creditTank_ports (t : Fin 8) (c : Nat) (h : s.comms.Sound) : (s.creditTank t c).comms.Sound := by
  unfold State.creditTank
  split
  · exact h
  · split
    · exact h
    · exact State.evaluated_ports t _ h

theorem State.bookStore_ports (x : MeterEntry) (std : Nat) (h : s.comms.Sound) : (s.bookStore x std).comms.Sound := by
  unfold State.bookStore
  split
  · split
    · exact State.creditTank_ports _ _ h
    · exact State.debitTank_ports _ _ h
  · exact h

theorem State.checkRun_ports (x : MeterEntry) (std : Nat) (h : s.comms.Sound) : (s.checkRun x std).comms.Sound := by
  unfold State.checkRun
  split
  · exact State.raise_ports _ _ h
  · exact h

theorem State.meterFlow_ports (i : Fin 8) (count : Nat) (temp : Int) (h : s.comms.Sound) :
    (s.meterFlow i count temp).comms.Sound := by
  unfold State.meterFlow
  dsimp only
  split
  · exact h
  · split
    · exact State.raise_ports _ _ h
    · exact State.checkRun_ports _ _ (State.bookStore_ports (s := State.bookEngine _ _ _) _ _ h)

theorem State.takeFlow_ports (ch : Nat) (data : List Byte) (h : s.comms.Sound) :
    (s.takeFlow ch data).comms.Sound := by
  unfold State.takeFlow
  split
  · exact h
  · exact State.meterFlow_ports _ _ _ h

theorem State.capture_ports (why : CaptureReason) (h : s.comms.Sound) : (s.capture why).comms.Sound := by
  unfold State.capture
  dsimp only
  split
  · exact State.raise_ports _ _ h
  · exact h

theorem State.createTanks_ports (h : s.comms.Sound) : s.createTanks.comms.Sound := by
  refine foldl_ports (fun s t hs => ?_) _ h
  split
  · exact State.evaluated_ports t _ hs
  · exact hs

/-! ### The propulsion unit (chapters 3 and 4) -/

theorem State.gearMoved_ports (e : Fin 4) (was now : Gear) (h : s.comms.Sound) :
    (s.gearMoved e was now).comms.Sound := by
  have hzero : (if was = .astern ∧ now ≠ .astern then s.zeroFlanking e else s).comms.Sound := by
    split <;> exact h
  unfold State.gearMoved
  dsimp only
  split
  · exact State.checkLock_ports _ hzero
  · exact hzero

theorem State.passOne_ports (level elapsed : Nat) (e : Fin 4) (h : s.comms.Sound) :
    (s.passOne level elapsed e).comms.Sound := by
  unfold State.passOne
  dsimp only
  split
  · exact h
  · exact State.gearMoved_ports (s := s.withChannel e _) e _ _ h

theorem State.passThree_ports (e : Fin 4) (h : s.comms.Sound) : (s.passThree e).comms.Sound := by
  unfold State.passThree
  dsimp only
  split
  · exact h
  · exact State.offerUrgent_ports (s := s.withChannel e _) .m _ h

theorem State.rampExpiry_ports (h : s.comms.Sound) : s.rampExpiry.comms.Sound := by
  have hone := foldl_ports (fun _ e => State.passOne_ports s.coup.level s.prop.rampTimer e) (List.finRange 4)
    (s := { s with prop := { s.prop with rampTimer := s.params.propInterval } }) h
  exact foldl_ports (fun _ e => State.passThree_ports e) _ (by simpa using hone)

/-! ### The steering unit (chapter 5) -/

theorem State.steerActuator_ports (level elapsed : Nat) (j : Fin 8) (h : s.comms.Sound) :
    (s.steerActuator level elapsed j).comms.Sound := by
  unfold State.steerActuator
  dsimp only
  split
  · exact h
  · split
    · exact h
    · exact h
    · exact State.offerUrgent_ports _ _ (State.watchBow_ports (s := s.withActuator j _) _ h)
    · exact State.offerUrgent_ports (s := s.withActuator j _) _ _ h

theorem State.steeringExpiry_ports (h : s.comms.Sound) : s.steeringExpiry.comms.Sound :=
  foldl_ports (fun _ j => State.steerActuator_ports _ _ j) _ h

theorem State.reportTo_ports (v : Int) (j : Fin 8) (h : s.comms.Sound) : (s.reportTo v j).comms.Sound := by
  unfold State.reportTo
  dsimp only
  split
  · exact h
  · split
    · exact State.watchBow_ports (s := s.withActuator j _) _ h
    · split
      · exact State.raise_ports _ _ h
      · exact h
    · exact h
    · exact h

theorem State.takeRudReport_ports (p : Port) (ch : Nat) (data : List Byte) (h : s.comms.Sound) :
    (s.takeRudReport p ch data).comms.Sound :=
  foldl_ports (fun _ j => State.reportTo_ports _ j) _ h

/-! ### The station unit (chapter 2) -/

theorem State.leverFrom_ports (data : List Byte) (i : Fin 4) (h : s.comms.Sound) :
    (s.leverFrom data i).comms.Sound := by
  unfold State.leverFrom
  dsimp only
  split
  · simpa using h
  · exact h

theorem State.helmFrom_ports (data : List Byte) (i : Fin 4) (h : s.comms.Sound) : (s.helmFrom data i).comms.Sound := by
  unfold State.helmFrom
  dsimp only
  split
  · exact State.checkLock_ports (s := State.helmAccepted _) _ h
  · exact h

theorem State.grantTake_ports (i : Fin 4) (h : s.comms.Sound) : (s.grantTake i).comms.Sound :=
  State.raise_ports _ _ (by simpa using h)

theorem State.takeFrom_ports (data : List Byte) (i : Fin 4) (h : s.comms.Sound) : (s.takeFrom data i).comms.Sound := by
  unfold State.takeFrom
  split
  · exact h
  · split
    · exact h
    · split
      · exact State.grantTake_ports i h
      · split
        · exact State.grantTake_ports i h
        · exact h

theorem State.watchFrom_ports (i : Fin 4) (h : s.comms.Sound) : (s.watchFrom i).comms.Sound := by
  unfold State.watchFrom
  split
  · exact State.capture_ports _ h
  · exact h

theorem State.stationFrame_ports (k : StationKind) (ch : Nat) (data : List Byte) {handle : Fin 4 → State → State}
    (hh : ∀ i (t : State), t.comms.Sound → (handle i t).comms.Sound) (h : s.comms.Sound) :
    (s.stationFrame k ch data handle).comms.Sound := by
  unfold State.stationFrame
  dsimp only
  split
  · exact h
  · split
    · exact h
    · exact hh _ _ h

/-! ### Forwarding (R4, R7 to R9) -/

theorem State.copies_ports (p : Port) (egress : BitVec 3) (c : LowClass) (f : Frame) (h : s.comms.Sound) :
    (s.copies p egress c f).comms.Sound := by
  refine foldl_ports (fun s q hs => ?_) _ h
  split
  · exact State.offerLow_ports q c f hs
  · exact hs

theorem State.forward_ports (p : Port) (f : Frame) (h : s.comms.Sound) : (s.forward p f).comms.Sound := by
  unfold State.forward
  split
  · split
    · exact h
    · exact State.copies_ports _ _ _ _ h
  · exact State.copies_ports _ _ _ _ h

theorem State.frameEvent_ports (p : Port) (least : Nat) {unit : State → State} (f : Frame)
    (hu : s.comms.Sound → (unit s).comms.Sound) (h : s.comms.Sound) : (s.frameEvent p least unit f).comms.Sound := by
  unfold State.frameEvent
  split
  · exact h
  · refine State.forward_ports p f ?_
    split
    · exact State.onPort_ports p (fun _ => PortUnit.Sound.countMalformed) h
    · exact hu h

/-! ### Management commands (chapter 10) -/

theorem State.needs_ports (n : Nat) (args : List Byte) {a : Answer} (ha : a.state.comms.Sound) (h : s.comms.Sound) :
    (s.needs n args a).state.comms.Sound := by
  unfold State.needs
  split
  · exact h
  · exact ha

theorem State.says_ports (st : Status) (results : List Byte) (h : s.comms.Sound) :
    (s.says st results).state.comms.Sound := h

theorem State.managed_ports (tag : Byte) {body : State → Answer}
    (hb : s.comms.Sound → (body s).state.comms.Sound) (h : s.comms.Sound) : (s.managed tag body).comms.Sound := by
  unfold State.managed
  split
  · exact h
  · exact State.offerLow_ports _ _ _ (hb h)

theorem State.afterOpen_ports (t : TableId) (h : s.comms.Sound) : (s.afterOpen t).comms.Sound := by
  cases t with
  | coupling => exact State.dropCouplings_ports h
  | _ => exact h

theorem State.afterReady_ports (t : TableId) (h : s.comms.Sound) : (s.afterReady t).comms.Sound := by
  cases t with
  | actuator => exact State.createActuators_ports h
  | coupling => exact State.createCouplings_ports h
  | tank => exact State.createTanks_ports h
  | _ => exact h

theorem State.tableOpen_ports (args : List Byte) (h : s.comms.Sound) : (s.tableOpen args).state.comms.Sound := by
  refine State.needs_ports _ _ ?_ h
  split
  · exact h
  · split
    · exact h
    · split
      · exact h
      · exact State.afterOpen_ports _ h

theorem State.tableWrite_ports (args : List Byte) (h : s.comms.Sound) : (s.tableWrite args).state.comms.Sound := by
  unfold State.tableWrite
  dsimp only
  (repeat' split) <;> exact h

theorem State.tableClose_ports (args : List Byte) (h : s.comms.Sound) : (s.tableClose args).state.comms.Sound := by
  refine State.needs_ports _ _ ?_ h
  split
  · exact h
  · split
    · exact State.afterReady_ports (s := State.endLoad _ _ _ _) _ h
    · exact State.raise_ports (s := State.endLoad _ _ _ _) _ _ h

theorem State.tableSeek_ports (args : List Byte) (h : s.comms.Sound) : (s.tableSeek args).state.comms.Sound := by
  refine State.needs_ports _ _ ?_ h
  (repeat' split) <;> exact h

theorem State.tableRead_ports (args : List Byte) (h : s.comms.Sound) : (s.tableRead args).state.comms.Sound := by
  unfold State.tableRead
  dsimp only
  (repeat' split) <;> exact h

theorem State.tableStateOf_ports (args : List Byte) (h : s.comms.Sound) :
    (s.tableStateOf args).state.comms.Sound := by
  refine State.needs_ports _ _ ?_ h
  split <;> exact h

theorem State.storeParam_ports (p : Param) (v : Nat) (h : s.comms.Sound) : (s.storeParam p v).comms.Sound := by
  unfold State.storeParam
  dsimp only
  split
  · exact State.checkLock_ports _ h
  · exact h

theorem State.setParam_ports (args : List Byte) (h : s.comms.Sound) : (s.setParam args).state.comms.Sound := by
  refine State.needs_ports _ _ ?_ h
  split
  · exact h
  · exact State.storeParam_ports _ _ h

theorem State.getParam_ports (args : List Byte) (h : s.comms.Sound) : (s.getParam args).state.comms.Sound := by
  refine State.needs_ports _ _ ?_ h
  split <;> exact h

theorem State.recordRead_ports (args : List Byte) (h : s.comms.Sound) : (s.recordRead args).state.comms.Sound := by
  refine State.needs_ports _ _ ?_ h
  (repeat' split) <;> exact h

theorem State.zeroed_ports (c : Counter) (h : s.comms.Sound) : (s.zeroed c).comms.Sound := by
  cases c with
  | malformed p => exact State.onPort_ports p (fun _ hu => { hu with malformed := Nat.zero_le _ }) h
  | frameLoss p => exact State.onPort_ports p (fun _ hu => { hu with frameLoss := Nat.zero_le _ }) h
  | _ => exact h

theorem State.counterRead_ports (args : List Byte) (h : s.comms.Sound) : (s.counterRead args).state.comms.Sound := by
  refine State.needs_ports _ _ ?_ h
  split
  · exact h
  · split
    · exact h
    · show (if _ then _ else s).comms.Sound
      split
      · exact State.zeroed_ports _ h
      · exact h

theorem State.noticeClear_ports (args : List Byte) (h : s.comms.Sound) : (s.noticeClear args).state.comms.Sound :=
  State.needs_ports _ _ (h.withNotices _) h

theorem State.snapRead_ports (args : List Byte) (h : s.comms.Sound) : (s.snapRead args).state.comms.Sound := by
  refine State.needs_ports _ _ ?_ h
  (repeat' split) <;> exact h

theorem State.bunkerTank_ports (args : List Byte) (h : s.comms.Sound) : (s.bunkerTank args).state.comms.Sound := by
  refine State.needs_ports _ _ ?_ h
  split
  · exact h
  · split
    · exact h
    · exact State.creditTank_ports _ _ h

theorem State.transferFuel_ports (args : List Byte) (h : s.comms.Sound) :
    (s.transferFuel args).state.comms.Sound := by
  refine State.needs_ports _ _ ?_ h
  split
  · exact h
  · split
    · split
      · exact h
      · exact State.creditTank_ports _ _ (State.debitTank_ports _ _ h)
    · exact h

theorem State.requestRelease_ports (args : List Byte) (h : s.comms.Sound) :
    (s.requestRelease args).state.comms.Sound := by
  refine State.needs_ports _ _ ?_ h
  split
  · exact h
  · split
    · exact h
    · split
      · exact h
      · split
        · exact h
        · split
          · exact h
          · exact State.says_ports _ _ (State.acceptRelease_ports _ _ h)

theorem State.detachCoupling_ports (args : List Byte) (h : s.comms.Sound) :
    (s.detachCoupling args).state.comms.Sound := by
  refine State.needs_ports _ _ ?_ h
  split
  · exact h
  · split
    · exact h
    · split
      · exact h
      · exact State.says_ports _ _ (State.afterChange_ports (s := s.withCoupling _ _) h)

theorem State.attachCoupling_ports (args : List Byte) (h : s.comms.Sound) :
    (s.attachCoupling args).state.comms.Sound := by
  refine State.needs_ports _ _ ?_ h
  split
  · exact h
  · split
    · exact h
    · exact State.says_ports _ _ (State.afterChange_ports (s := s.withCoupling _ _) h)

theorem State.pollOne_ports (args : List Byte) (h : s.comms.Sound) : (s.pollOne args).state.comms.Sound := by
  refine State.needs_ports _ _ ?_ h
  split
  · exact h
  · split
    · exact h
    · exact State.offerLow_ports _ _ _ h

theorem State.resetActuator_ports (args : List Byte) (h : s.comms.Sound) :
    (s.resetActuator args).state.comms.Sound := by
  refine State.needs_ports _ _ ?_ h
  split
  · exact h
  · split
    · exact h
    · split
      · exact State.says_ports _ _ (State.gateActuator_ports (s := s.withActuator _ _) _ h)
      · exact h

/-! ### Restarts and port events (R19, R20, R22, R24, R199) -/

theorem State.requestRestart_ports (tag : Byte) (h : s.comms.Sound) : (s.requestRestart tag).comms.Sound := by
  unfold State.requestRestart
  split
  · exact h
  · rcases Comms.joinLow_cases s.env .w .bulk (replyFrame s.channel tag .ok []) s.comms with ⟨u, hu, hj⟩ | ⟨-, hj⟩ <;>
      rw [hj]
    · exact h.setPort .w ((h .w).joinLow hu)
    · exact (Comms.sound_closed _).discard .w h

theorem State.transmitted_ports (p : Port) (h : s.comms.Sound) : (s.transmitted p).comms.Sound := by
  have hsent := State.onPort_ports p (f := fun u => u.sent.grant s.env) (fun _ hu => hu.sent.grant _) h
  unfold State.transmitted State.replySent
  dsimp only
  (repeat' split) <;> exact hsent

theorem State.linkGone_ports (p : Port) (h : s.comms.Sound) : (s.linkGone p).comms.Sound := by
  have hlost := State.onPort_ports p (fun _ => PortUnit.Sound.lost) h
  have hend {t : State} (ht : t.comms.Sound) :
      (if p = .w ∧ s.replyWait.isSome = true then t.enterRestart .warm else t).comms.Sound := by
    split <;> exact ht
  refine hend (State.raise_ports .portDown (portNum p) ?_)
  split
  · exact hlost
  · exact State.raise_ports _ _ hlost

theorem State.restartPropulsion_comms (s : State) : s.restartPropulsion.comms = s.comms := by
  unfold State.restartPropulsion
  dsimp only
  split <;> rfl

theorem State.restartCouplings_comms (s : State) : s.restartCouplings.comms = s.comms := by
  unfold State.restartCouplings
  dsimp only
  split <;> rfl

theorem State.restartSteering_ports (h : s.comms.Sound) : s.restartSteering.comms.Sound := State.tellSteering_ports h

theorem State.warm_ports (straps : Straps) (s : State) : (s.warm straps).comms.Sound := by
  refine State.restartSteering_ports ?_
  rw [State.restartCouplings_comms, State.restartPropulsion_comms]
  exact Comms.restarted_sound straps

/-! ### Frames received and the step -/

theorem commandBody_ports (code : Nat) (args : List Byte) (h : s.comms.Sound) :
    (commandBody code args s).state.comms.Sound := by
  unfold commandBody
  split
  · exact State.tableOpen_ports args h
  · exact State.tableWrite_ports args h
  · exact State.tableClose_ports args h
  · exact State.tableSeek_ports args h
  · exact State.tableRead_ports args h
  · exact State.tableStateOf_ports args h
  · exact State.setParam_ports args h
  · exact State.getParam_ports args h
  · exact State.recordRead_ports args h
  · exact State.counterRead_ports args h
  · exact State.noticeClear_ports args h
  · exact State.capture_ports .mgmt h
  · exact State.snapRead_ports args h
  · exact State.bunkerTank_ports args h
  · exact State.transferFuel_ports args h
  · exact State.requestRelease_ports args h
  · exact State.detachCoupling_ports args h
  · exact State.attachCoupling_ports args h
  · exact State.pollOne_ports args h
  · exact State.resetActuator_ports args h
  · exact h

theorem State.mgmtFrame_ports (f : Frame) (h : s.comms.Sound) : (s.mgmtFrame f).comms.Sound := by
  unfold State.mgmtFrame State.command
  split
  · exact h
  · split
    · exact State.onPort_ports .w (fun _ => PortUnit.Sound.countMalformed) h
    · split
      · exact State.requestRestart_ports _ h
      · exact State.managed_ports _ (commandBody_ports _ _) h

theorem State.received_ports (p : Port) (f : Frame) (h : s.comms.Sound) : (s.received p f).comms.Sound := by
  unfold State.received
  dsimp only
  split
  · exact State.frameEvent_ports p _ f (State.stationFrame_ports _ _ _ fun i _ => State.leverFrom_ports _ i) h
  · exact State.frameEvent_ports p _ f (State.stationFrame_ports _ _ _ fun i _ => State.helmFrom_ports _ i) h
  · exact State.frameEvent_ports p _ f (State.stationFrame_ports _ _ _ fun i _ => State.takeFrom_ports _ i) h
  · exact State.frameEvent_ports p _ f (State.stationFrame_ports _ _ _ fun i _ => State.watchFrom_ports i) h
  · exact State.frameEvent_ports p _ f (fun h => by simpa using h) h
  · exact State.frameEvent_ports p _ f (State.takeRudReport_ports p _ _) h
  · exact State.frameEvent_ports p _ f (State.takeCoupleReport_ports _ _) h
  · exact State.frameEvent_ports p _ f (State.takeFlow_ports _ _) h
  · exact State.mgmtFrame_ports f h
  · exact State.frameEvent_ports p _ f id h

/-- Every command keeps the ports sound (R10, R12, R15, R16, R20, R21, R23). -/
theorem exec_ports (c : Instr) {t : State} (h : s.comms.Sound) (he : exec c s = .next t) : t.comms.Sound := by
  have held {u : State} (hu : u.comms.Sound) : (if s.restart.isSome then s else u).comms.Sound := by
    split
    · exact h
    · exact hu
  have managed (tag : Byte) {body : State → Answer} (hb : s.comms.Sound → (body s).state.comms.Sound) :=
    State.managed_ports tag hb h
  have station {k : StationKind} {ch least : Nat} {data : List Byte} {f : Frame} {handle : Fin 4 → State → State}
      (hh : ∀ i (u : State), u.comms.Sound → (handle i u).comms.Sound) :
      (s.frameEvent .w least (State.stationFrame k ch data handle) f).comms.Sound :=
    State.frameEvent_ports .w least f (State.stationFrame_ports k ch data hh) h
  cases c <;> obtain rfl := Host.Outcome.next.inj he
  case frameReceived p f => exact State.received_ports p f h
  case transmitComplete p =>
    split
    · exact h
    · exact State.transmitted_ports p h
  case linkLost p => exact held (State.linkGone_ports p h)
  case linkRestored p => exact held (State.onPort_ports p (fun _ hu => hu.restored.grant _) h)
  case lever => exact station (fun i _ => State.leverFrom_ports _ i)
  case helm => exact station (fun i _ => State.helmFrom_ports _ i)
  case take => exact station (fun i _ => State.takeFrom_ports _ i)
  case watch => exact station (fun i _ => State.watchFrom_ports i)
  case govReport => exact State.frameEvent_ports .m _ _ (fun h => by simpa using h) h
  case rudReport p ch data =>
    split
    · exact State.frameEvent_ports .w _ _ id h
    · exact State.frameEvent_ports p _ _ (State.takeRudReport_ports p _ data) h
  case coupleReport => exact State.frameEvent_ports .t _ _ (State.takeCoupleReport_ports _ _) h
  case flow => exact State.frameEvent_ports .m _ _ (State.takeFlow_ports _ _) h
  case tableOpen tag args => exact managed tag (State.tableOpen_ports args)
  case tableWrite tag args => exact managed tag (State.tableWrite_ports args)
  case tableClose tag args => exact managed tag (State.tableClose_ports args)
  case tableReadSeek tag args => exact managed tag (State.tableSeek_ports args)
  case tableRead tag args => exact managed tag (State.tableRead_ports args)
  case tableState tag args => exact managed tag (State.tableStateOf_ports args)
  case setParam tag args => exact managed tag (State.setParam_ports args)
  case getParam tag args => exact managed tag (State.getParam_ports args)
  case recordRead tag args => exact managed tag (State.recordRead_ports args)
  case counterRead tag args => exact managed tag (State.counterRead_ports args)
  case noticeClear tag args => exact managed tag (State.noticeClear_ports args)
  case snapCapture tag args => exact managed tag (State.capture_ports .mgmt)
  case snapRead tag args => exact managed tag (State.snapRead_ports args)
  case bunker tag args => exact managed tag (State.bunkerTank_ports args)
  case transfer tag args => exact managed tag (State.transferFuel_ports args)
  case coupleRelease tag args => exact managed tag (State.requestRelease_ports args)
  case coupleDetach tag args => exact managed tag (State.detachCoupling_ports args)
  case coupleAttach tag args => exact managed tag (State.attachCoupling_ports args)
  case pollNow tag args => exact managed tag (State.pollOne_ports args)
  case actuatorReset tag args => exact managed tag (State.resetActuator_ports args)
  case restartCommand tag args => exact State.requestRestart_ports tag h
  case unknownCommand tag code args => exact managed tag id
  case rampTimerExpiry => exact held (State.rampExpiry_ports h)
  case dwellTimerExpiry e => exact held (by simpa using h)
  case freshnessTimerExpiry e =>
    refine held ?_
    split
    · exact h
    · split
      · exact h
      · exact State.raise_ports (s := s.withChannel e _) _ _ h
  case holdTimerExpiry e => exact held (by simpa using h)
  case steeringTimerExpiry => exact held (State.steeringExpiry_ports h)
  case helmTimerExpiry =>
    split
    · exact h
    · exact State.raise_ports _ _ h
  case pollTimerExpiry => exact held (State.pollExpiry_ports h)
  case releaseTimerExpiry =>
    split
    · exact h
    · split
      · exact h
      · exact State.failRelease_ports _ h
  case powerOnReset => exact h
  case warmRestart => exact held h
  case endOfRestart straps =>
    split
    · exact h
    · exact Comms.restarted_sound straps
    · exact State.warm_ports straps s

end Keeping

/-- Settles O11: the step carries out the front command, and every command keeps the ports sound. -/
theorem everyStepKeepsPorts : Obligations.EveryStepKeepsPorts := by
  intro s t hs hstep
  rw [State.portsSound_iff] at hs ⊢
  unfold step at hstep
  split at hstep
  · obtain rfl := Host.Outcome.next.inj hstep
    exact hs
  · rename_i c rest _
    exact exec_ports c (s := { s with pending := rest }) hs hstep

end Sys2Proof.Machine
end

section
/-! PROOF. What the port units do, as exact next states: the arbiter (R15 to R17), the offers (R11 to R13, R21), the end of a
transmission (R19), the loss and the return of a link (R20, R22), and the restart pending state (R199). -/

namespace Sys2Proof.Machine

/-! ### The arbiter (R15 to R17) -/

theorem passedOver_eq (queue : List Frame) (n : Nat) :
    passedOver queue n = if queue ≠ [] then min 63 (n + 1) else n := by
  cases queue <;> rfl

/-- The five tests of R17 on the queues as lists. -/
theorem PortUnit.chosen_eq (e : Env) (p : PortUnit) :
    p.chosen e = if p.routine ≠ [] ∧ e.patienceRoutine ≤ p.passedRoutine then .routine
      else if p.bulk ≠ [] ∧ e.patienceBulk ≤ p.passedBulk then .bulk
      else if p.urgent ≠ [] then .urgent
      else if p.routine ≠ [] then .routine else .bulk := by
  simp [PortUnit.chosen]

/-- A grant puts the head of its class in flight, clears its own count and raises those of the lower classes that hold a
frame (R17). -/
theorem PortUnit.granted_eq (c : QueueClass) (p : PortUnit) :
    p.granted c = { p with
      inFlight := some c
      passedRoutine := if c = .routine then 0
        else if c = .urgent ∧ p.routine ≠ [] then min 63 (p.passedRoutine + 1) else p.passedRoutine
      passedBulk := if c = .bulk then 0
        else if p.bulk ≠ [] then min 63 (p.passedBulk + 1) else p.passedBulk } := by
  cases c <;> simp [PortUnit.granted, passedOver_eq]

/-- Settles O6: a grant goes to the class the five tests choose, and `granted_eq` says what it sets. -/
theorem arbiterGrantsByFiveTests : Obligations.ArbiterGrantsByFiveTests := by
  intro e p
  have hholds : p.holdsFrame = true ↔ p.urgent ≠ [] ∨ p.routine ≠ [] ∨ p.bulk ≠ [] := by
    rw [← Bool.not_eq_false, PortUnit.holdsFrame_iff]
    tauto
  constructor
  · intro hup hidle hsome
    exact ⟨p.chosen e, p.chosen_eq e,
      (p.grant_some e ⟨hup, hidle, hholds.mpr hsome⟩).trans (PortUnit.granted_eq _ p)⟩
  · rintro hnone
    refine p.grant_none e fun ⟨hup, hidle, hsome⟩ => ?_
    rcases hnone with hdown | hbusy | hempty
    · simp [hup] at hdown
    · exact hbusy hidle
    · rw [p.holdsFrame_iff.mpr hempty] at hsome
      exact absurd hsome (by simp)

/-! ### Offers (R11 to R13, R21) -/

/-- A discarded frame is counted, and FRAME_LOSS is raised with the port's number (R11, R12). -/
theorem State.discard_eq (p : Port) (s : State) :
    ({ s with comms := s.comms.discard s.env p } : State) =
      (s.onPort p fun u => { u with frameLoss := min 65535 (u.frameLoss + 1) }).raise .frameLoss (portNum p) := by
  have h := Comms.raiseFrameLoss_eq_raise s.env p (s.comms.countLoss p)
  simp only [Comms.discard, h]
  rfl

/-- An offer that the port unit takes (R11). -/
theorem State.offerLow_joined {p : Port} {c : LowClass} {f : Frame} {s : State} (hup : (s.comms.port p).link = .up)
    (hroom : ((s.comms.port p).lowQueue c).length < lowCap c) :
    s.offerLow p c f = s.onPort p fun u => (u.pushLow c f).grant s.env := by
  have hj : (s.comms.port p).joinLow s.env c f = some (((s.comms.port p).pushLow c f).grant s.env) :=
    if_pos ⟨hup, hroom⟩
  simp only [State.offerLow, Comms.offerLow, Comms.joinLow, hj]
  rfl

/-- An offer that the port unit refuses (R11, R21). -/
theorem State.offerLow_refused {p : Port} {c : LowClass} {f : Frame} {s : State}
    (h : ¬((s.comms.port p).link = .up ∧ ((s.comms.port p).lowQueue c).length < lowCap c)) :
    s.offerLow p c f = (s.onPort p fun u => { u with frameLoss := min 65535 (u.frameLoss + 1) }).raise
      .frameLoss (portNum p) := by
  have hj : (s.comms.port p).joinLow s.env c f = none := if_neg h
  rw [← State.discard_eq]
  simp only [State.offerLow, Comms.offerLow, Comms.joinLow, hj]
  rfl

/-- Settles O8. -/
theorem lowOfferJoinsOrCounts : Obligations.LowOfferJoinsOrCounts := by
  refine ⟨⟨rfl, rfl, rfl⟩, fun p f s => ⟨fun hup hroom => State.offerLow_joined (c := .routine) hup hroom,
    fun hup hroom => State.offerLow_joined (c := .bulk) hup hroom, fun cls hfull => State.offerLow_refused ?_⟩⟩
  rintro ⟨hup, hroom⟩
  rcases hfull with hdown | ⟨rfl, hlen⟩ | ⟨rfl, hlen⟩
  · simp [hup] at hdown
  · exact absurd hroom (Nat.not_lt.mpr hlen)
  · exact absurd hroom (Nat.not_lt.mpr hlen)

/-- Frames have the same key when they agree in kind and channel and, for COUPLE-CMD, in the sub-index byte (R12). -/
theorem keyOf_eq_iff (f g : Frame) :
    keyOf f = keyOf g ↔ f.id = g.id ∧ (f.id.toNat / 64 = 4 → f.data.head? = g.data.head?) := by
  simp only [keyOf, Prod.mk.injEq]
  refine and_congr_right fun hid => ?_
  have hkind : kindOf g = kindOf f := by simp [kindOf, hid]
  rw [hkind]
  change _ ↔ (kindOf f = 4 → _)
  by_cases h : kindOf f = 4 <;> simp [h]

/-- Replacement in place where one frame has the key (R13). -/
theorem replaceKey_append_cons {f g : Frame} {front back : List Frame} (hg : keyOf g = keyOf f)
    (hother : ∀ h ∈ front ++ back, keyOf h ≠ keyOf f) : replaceKey f (front ++ g :: back) = front ++ f :: back := by
  have hkeep {l : List Frame} (hl : ∀ h ∈ l, keyOf h ≠ keyOf f) : replaceKey f l = l :=
    (List.map_congr_left fun h hh => if_neg (hl h hh)).trans (List.map_id l)
  have hfront := hkeep fun h hh => hother h (List.mem_append_left _ hh)
  have hback := hkeep fun h hh => hother h (List.mem_append_right _ hh)
  unfold replaceKey at *
  rw [List.map_append, List.map_cons, hfront, hback, if_pos hg]

/-- What an offer to URGENT leaves, by the answer of the port unit (R12). -/
theorem State.offerUrgent_joined {p : Port} {f : Frame} {u : PortUnit} {s : State}
    (hj : (s.comms.port p).joinUrgent s.env f = some u) : s.offerUrgent p f = s.onPort p fun _ => u := by
  simp only [State.offerUrgent, Comms.offerUrgent, hj]
  rfl

theorem State.offerUrgent_refused {p : Port} {f : Frame} {s : State}
    (hj : (s.comms.port p).joinUrgent s.env f = none) : s.offerUrgent p f =
      (s.onPort p fun u => { u with frameLoss := min 65535 (u.frameLoss + 1) }).raise .frameLoss (portNum p) := by
  rw [← State.discard_eq]
  simp only [State.offerUrgent, Comms.offerUrgent, hj]

/-- Settles O7: the three answers of `PortUnit.joinUrgent`, told apart by a waiting frame of the key and by the room. -/
theorem urgentOfferCoalesces : Obligations.UrgentOfferCoalesces := by
  refine ⟨keyOf_eq_iff, fun p f s => ⟨fun front g back hwait hg hother => ?_, fun hnew hroom => ?_, fun hnew hfull => ?_⟩⟩
  · have hany : (s.comms.port p).urgentWaiting.any (fun g => keyOf g = keyOf f) = true := by simp [hwait, hg]
    refine State.offerUrgent_joined ((if_pos hany).trans ?_)
    rw [hwait, replaceKey_append_cons hg hother]
  all_goals
    have hany : ¬(s.comms.port p).urgentWaiting.any (fun g => keyOf g = keyOf f) = true := by simpa using hnew
  · exact State.offerUrgent_joined ((if_neg hany).trans (if_pos hroom))
  · exact State.offerUrgent_refused ((if_neg hany).trans (if_neg (Nat.not_lt.mpr hfull)))

/-! ### The end of a transmission (R19, R199) -/

/-- The frame in flight leaves the queue of its class (R19). -/
theorem PortUnit.sent_eq {p : PortUnit} {c : QueueClass} (h : p.inFlight = some c) :
    p.sent = { p with
      urgent := if c = .urgent then p.urgent.drop 1 else p.urgent
      routine := if c = .routine then p.routine.drop 1 else p.routine
      bulk := if c = .bulk then p.bulk.drop 1 else p.bulk
      inFlight := none } := by
  cases c <;> simp [PortUnit.sent, h]

/-- A transmit complete taken: the port after the sending and the next grant, and for a BULK frame of W the restart
pending state (R19, R199). -/
theorem exec_transmitComplete {p : Port} {c : QueueClass} {s : State} (hr : s.restart = none)
    (hc : (s.comms.port p).inFlight = some c) :
    exec (.transmitComplete p) s = .next
      (if p = .w ∧ c = .bulk then (s.onPort p fun u => u.sent.grant s.env).replySent
        else s.onPort p fun u => u.sent.grant s.env) := by
  have hw : (p = .w ∧ s.comms.w.inFlight = some .bulk) = (p = .w ∧ c = .bulk) := by
    refine propext (and_congr_right ?_)
    rintro rfl
    rw [show s.comms.w.inFlight = some c from hc, Option.some.injEq]
  simp only [exec, execTransmitComplete, State.transmitted, hr, hc, hw]
  rfl

/-- Settles O5. -/
theorem transmitCompleteSendsHead : Obligations.TransmitCompleteSendsHead := by
  intro p c s hr hc u sent
  have hsent : (s.onPort p fun u => u.sent.grant s.env) = sent := by
    simp only [State.onPort, PortUnit.sent_eq hc]
    rfl
  rw [exec_transmitComplete hr hc, hsent]
  refine ⟨fun hother => ?_, fun hp hb hw => ?_, fun n hp hb hw => ?_⟩
  · split
    · rename_i hwb
      have hw : sent.replyWait = none := by
        rcases hother with h | h | h
        · exact absurd hwb.1 h
        · exact absurd hwb.2 h
        · exact h
      rw [State.replySent, hw]
    · rfl
  · rw [if_pos ⟨hp, hb⟩, State.replySent, show sent.replyWait = some 0 from hw]
    rfl
  · rw [if_pos ⟨hp, hb⟩, State.replySent, show sent.replyWait = some (n + 1) from hw]

/-! ### The loss and the return of a link (R20, R22) -/

/-- URGENT after a link loss, by the frame in flight and the frames behind it (R20, step 1). -/
theorem PortUnit.urgentAfterLoss_eq (p : PortUnit) :
    p.urgentAfterLoss = match p.inFlight, p.urgent with
      | some .urgent, f :: rest => if rest.any (fun g => keyOf g = keyOf f) then rest else f :: rest
      | _, l => l := by
  unfold PortUnit.urgentAfterLoss PortUnit.urgentInFlight PortUnit.urgentWaiting
  cases hi : p.inFlight with
  | none => rfl
  | some c => cases c <;> cases p.urgent <;> rfl

/-- Settles O10. -/
theorem linkLostAndRestored : Obligations.LinkLostAndRestored := by
  intro p s hr u down s1 s2 s3
  have hdown : s.onPort p PortUnit.lost = s1 := by
    simp only [State.onPort, PortUnit.lost, PortUnit.urgentAfterLoss_eq]
    rfl
  have hempty : u.lostFrames = 0 ↔ u.routine = [] ∧ u.bulk = [] := by
    simp [PortUnit.lostFrames]
  have htold : (if u.lostFrames = 0 then s1 else s1.raise .frameLoss (portNum p)) = s2 := by
    simp only [hempty]
    rfl
  constructor
  · have hwait : (s.replyWait.isSome = true) = (s.replyWait ≠ none) := by simp [Option.isSome_iff_ne_none]
    have hgone : s.linkGone p = if p = .w ∧ s.replyWait ≠ none then s3.enterRestart .warm else s3 := by
      simp only [State.linkGone, hdown, hwait, show s.comms.port p = u from rfl, htold]
      rfl
    simp only [exec, execLinkLost, hr, hgone]
    rfl
  · simp only [exec, execLinkRestored, hr]
    rfl

end Sys2Proof.Machine
end

section
/-! PROOF. Forwarding by the route table and the port defaults (R7 to R9), and the classes of received frames (R1 to R6). -/

namespace Sys2Proof.Machine

/-! ### The route table (R7, R189) -/

theorem portOfNum_isNone_or (v : Nat) (p : Port) :
    ((portOfNum v).isNone = true ∨ portOfNum v = some p) ↔ 2 < v ∨ v = portNum p := by
  match v with
  | 0 | 1 | 2 => cases p <;> simp [portOfNum, portNum]
  | n + 3 => simp [portOfNum]

theorem RouteEntry.matchesFrame_iff (x : RouteEntry) (p : Port) (f : Frame) :
    x.matchesFrame p f = true ↔ (x.ingress.isNone = true ∨ x.ingress = some p) ∧
      (x.kind.isNone = true ∨ x.kind = some (kindOf f)) ∧ x.low ≤ channelOf f ∧ channelOf f ≤ x.high := by
  simp [RouteEntry.matchesFrame, and_assoc]

/-- A ROUTE entry matches by its words: ingress and kind or ANY, and the channel range (R7, R189). -/
theorem State.routeEntry_matchesFrame (s : State) (i : Nat) (p : Port) (f : Frame) :
    (s.routeEntry i).matchesFrame p f = true ↔
      (2 < s.entryWord .route i 0 ∨ s.entryWord .route i 0 = portNum p) ∧
      (31 < s.entryWord .route i 1 ∨ s.entryWord .route i 1 = kindOf f) ∧
      s.entryWord .route i 2 ≤ channelOf f ∧ channelOf f ≤ s.entryWord .route i 3 := by
  have hkind (v : Nat) : ((if v ≤ 31 then some v else none).isNone = true ∨
      (if v ≤ 31 then some v else none) = some (kindOf f)) ↔ 31 < v ∨ v = kindOf f := by
    have : kindOf f ≤ 31 := by have := f.id.isLt; unfold kindOf; omega
    split <;> simp <;> omega
  exact (RouteEntry.matchesFrame_iff _ p f).trans
    (and_congr (portOfNum_isNone_or _ p) (and_congr (hkind _) Iff.rfl))

/-- The copies of a forwarded frame, one port after the other (R8; log entry 5). -/
theorem State.copies_eq (p : Port) (egress : BitVec 3) (c : LowClass) (f : Frame) (s : State) :
    s.copies p egress c f =
      let copy (q : Port) (t : State) : State :=
        if q ≠ p ∧ egress.getLsbD (portNum q) = true then t.offerLow q c f else t
      copy .t (copy .m (copy .w s)) := rfl

/-- The entry the route table answers with is the first that matches (R7). -/
theorem State.routeFor_first {s : State} {p : Port} {f : Frame} {i : Nat} (hr : s.ready .route = true)
    (hi : i < (s.table .route).count) (hm : (s.routeEntry i).matchesFrame p f = true)
    (hfirst : ∀ k < i, ¬(s.routeEntry k).matchesFrame p f = true) : s.routeFor p f = some (s.routeEntry i) := by
  have hfind : (List.range (s.table .route).count).find? (fun k => (s.routeEntry k).matchesFrame p f) = some i := by
    rw [List.find?_range_eq_some]
    exact ⟨hm, List.mem_range.mpr hi, fun k hk => by simpa using hfirst k hk⟩
  rw [State.routeFor, if_pos hr, List.find?_map]
  exact congrArg (Option.map s.routeEntry) hfind

/-- Without a READY table or a match the route table has no answer (R7). -/
theorem State.routeFor_none {s : State} {p : Port} {f : Frame}
    (h : s.ready .route = false ∨ ∀ i < (s.table .route).count, ¬(s.routeEntry i).matchesFrame p f = true) :
    s.routeFor p f = none := by
  rw [State.routeFor]
  rcases h with hr | hno
  · rw [if_neg (by simp [hr])]
  · split
    · simpa using hno
    · rfl

/-- Settles O12. -/
theorem routeTableForwards : Obligations.RouteTableForwards := by
  intro p f s w hit copy pass
  have hhit (i : Nat) : (s.routeEntry i).matchesFrame p f = true ↔ hit i := s.routeEntry_matchesFrame i p f
  constructor
  · intro i hr hi hm hfirst
    have hroute := State.routeFor_first hr hi ((hhit i).mpr hm) fun k hk => mt (hhit k).mp (hfirst k hk)
    have hdrop : (s.routeEntry i).drop = decide (w i 4 = 1) := rfl
    rw [State.forward, hroute]
    simp only [hdrop, decide_eq_true_eq, State.copies_eq]
    rfl
  · intro hno
    have hroute := State.routeFor_none (s := s) (p := p) (f := f)
      (hno.imp_right fun h i hi => mt (hhit i).mp (h i hi))
    rw [State.forward, hroute]
    rfl

/-! ### Received frames by their class (R1 to R6) -/

/-- A kind and channel make an identifier that gives them back (R2). -/
theorem kindOf_frameOf {kind : Nat} (hk : kind < 32) (ch : BitVec 6) (data : List Byte) :
    kindOf (frameOf kind ch.toNat data) = kind := by
  have := ch.isLt
  simp only [kindOf, frameOf, BitVec.toNat_ofNat]
  omega

theorem channelOf_frameOf (kind : Nat) (ch : BitVec 6) (data : List Byte) :
    channelOf (frameOf kind ch.toNat data) = ch.toNat := by
  have := ch.isLt
  simp only [channelOf, frameOf, BitVec.toNat_ofNat]
  omega

/-- A code that names no command is answered BAD_VALUE (R193). -/
theorem commandBody_unknown {code : Nat} (args : List Byte)
    (h : code ∉ [0x01, 0x02, 0x03, 0x04, 0x05, 0x06, 0x10, 0x11, 0x20, 0x21, 0x22, 0x30, 0x31, 0x32, 0x33, 0x40, 0x41,
      0x42, 0x43, 0x50]) : commandBody code args = fun s => s.says .badValue [] := by
  funext s
  unfold commandBody
  split <;> first | rfl | exact absurd (by decide) h

/-- Nothing is commanded while a restart is held (R198, R199). -/
theorem State.command_held (tag : Byte) (code : Nat) (args : List Byte) {s : State} (h : s.restart.isSome = true) :
    s.command tag code args = s := by
  simp [State.command, State.requestRestart, State.managed, h]

/-- An MGMT frame of two or more bytes, received on an UP port W on the management channel, is handed to the table and
management unit by its code (R6, R193). -/
theorem exec_mgmtFrame (tag code : Byte) (args : List Byte) {s : State} (hup : s.comms.w.link = .up) :
    exec (.frameReceived .w (frameOf 15 s.channel.toNat (tag :: code :: args))) s =
      .next (s.command tag code.toNat args) := by
  have hclass : classOf s.channel.toNat .w (frameOf 15 s.channel.toNat (tag :: code :: args)) = .mgmt := by
    simp [classOf, kindOf_frameOf, channelOf_frameOf]
  have hdeaf : s.deaf .w = s.restart.isSome := by simp [State.deaf, Comms.port, hup]
  have hframe : s.mgmtFrame (frameOf 15 s.channel.toNat (tag :: code :: args)) =
      if s.restart.isSome = true then s else s.command tag code.toNat args := by
    rw [State.mgmtFrame, hdeaf]
    rfl
  simp only [exec, execFrameReceived, State.received, hclass, hframe]
  split
  · rename_i hheld
    rw [State.command_held tag _ args hheld]
  · rfl

/-- Settles O13: the class of a frame built from a row's operands is the row's, and a management frame is the command of its
code. -/
theorem frameReceivedIsItsRow : Obligations.FrameReceivedIsItsRow := by
  constructor
  · intro ch data s
    refine ⟨?_, ?_, ?_, ?_, ?_, ?_, ?_, ?_, ?_⟩
    all_goals
      simp only [exec, execFrameReceived, State.received, classOf, kindOf_frameOf, channelOf_frameOf, Nat.reduceLT,
        Nat.reduceEqDiff, reduceCtorEq, false_and, true_and, and_true, and_false, if_true, if_false, ne_eq, not_false_eq_true]
      rfl
  · intro tag code args s hup
    rw [exec_mgmtFrame tag code args hup]
    split
    case h_22 h1 h2 h3 h4 h5 h6 h7 h8 h9 h10 h11 h12 h13 h14 h15 h16 h17 h18 h19 h20 h21 =>
      rw [State.command, if_neg h21, commandBody_unknown]
      · rfl
      · simp only [List.mem_cons, List.not_mem_nil, or_false, not_or]
        exact ⟨h1, h2, h3, h4, h5, h6, h7, h8, h9, h10, h11, h12, h13, h14, h15, h16, h17, h18, h19, h20⟩
    all_goals
      rename_i hcode
      rw [hcode]
      rfl

/-- A frame of no interpreted kind on its port, and none of the management channel, is free (R3). -/
theorem classOf_free {mch : Nat} {p : Port} {f : Frame} (hw : p = .w → kindOf f ∉ [5, 6, 10, 13])
    (hm : p = .m → kindOf f ∉ [7, 8, 11]) (ht : p = .t → kindOf f ∉ [8, 9])
    (hmgmt : ¬(p = .w ∧ kindOf f = 15 ∧ channelOf f = mch)) : classOf mch p f = .free := by
  cases p with
  | w =>
    have := hw rfl
    simp_all [classOf]
  | m =>
    have := hm rfl
    simp_all [classOf]
  | t =>
    have := ht rfl
    simp_all [classOf]

/-- Settles O14. -/
theorem otherFramesForwardedOrCounted : Obligations.OtherFramesForwardedOrCounted := by
  refine ⟨fun f => ⟨rfl, rfl⟩, ?_⟩
  intro p f s hs interpreted management counted
  refine ⟨fun hfree hmgmt => ?_, fun least hint hshort => ?_, fun hmgmt hshort => ?_⟩
  · have hclass : classOf s.channel.toNat p f = .free := by
      refine classOf_free (fun hp hk => ?_) (fun hp hk => ?_) (fun hp hk => ?_) hmgmt
      · simp only [List.mem_cons, List.not_mem_nil, or_false] at hk
        rcases hk with hk | hk | hk | hk
        · exact hfree 4 (.inl ⟨hp, .inl ⟨hk, rfl⟩⟩)
        · exact hfree 3 (.inl ⟨hp, .inr (.inl ⟨hk, rfl⟩)⟩)
        · exact hfree 2 (.inl ⟨hp, .inr (.inr (.inl ⟨hk, rfl⟩))⟩)
        · exact hfree 1 (.inl ⟨hp, .inr (.inr (.inr ⟨hk, rfl⟩))⟩)
      · simp only [List.mem_cons, List.not_mem_nil, or_false] at hk
        rcases hk with hk | hk | hk
        · exact hfree 3 (.inr (.inl ⟨hp, .inl ⟨hk, rfl⟩⟩))
        · exact hfree 2 (.inr (.inl ⟨hp, .inr (.inl ⟨hk, rfl⟩)⟩))
        · exact hfree 4 (.inr (.inl ⟨hp, .inr (.inr ⟨hk, rfl⟩)⟩))
      · simp only [List.mem_cons, List.not_mem_nil, or_false] at hk
        rcases hk with hk | hk
        · exact hfree 2 (.inr (.inr ⟨hp, .inl ⟨hk, rfl⟩⟩))
        · exact hfree 4 (.inr (.inr ⟨hp, .inr ⟨hk, rfl⟩⟩))
    simp only [exec, execFrameReceived, State.received, hclass, State.frameEvent_taken p 0 id f hs (Nat.zero_le _), id]
  · have hcounted (unit : State → State) : s.frameEvent p least unit f = counted.forward p f :=
      State.frameEvent_malformed p least unit f hs hshort
    rcases hint with ⟨rfl, hk⟩ | ⟨rfl, hk⟩ | ⟨rfl, hk⟩
    · rcases hk with ⟨hk, rfl⟩ | ⟨hk, rfl⟩ | ⟨hk, rfl⟩ | ⟨hk, rfl⟩ <;>
        simp [exec, execFrameReceived, State.received, classOf, hk, hcounted]
    · rcases hk with ⟨hk, rfl⟩ | ⟨hk, rfl⟩ | ⟨hk, rfl⟩ <;>
        simp [exec, execFrameReceived, State.received, classOf, hk, hcounted]
    · rcases hk with ⟨hk, rfl⟩ | ⟨hk, rfl⟩ <;>
        simp [exec, execFrameReceived, State.received, classOf, hk, hcounted]
  · obtain ⟨rfl, hk, hch⟩ := hmgmt
    have hclass : classOf s.channel.toNat .w f = .mgmt := by simp [classOf, hk, hch]
    simp only [exec, execFrameReceived, State.received, hclass, State.mgmtFrame, State.hears_deaf hs, if_pos hshort]
    rfl

end Sys2Proof.Machine
end

section
/-! PROOF. What the part does not act on: the events that do not occur (log entry 3), and repeats and strangers among the
station frames (R25 to R27). -/

namespace Sys2Proof.Machine

/-! ### Events that do not occur -/

theorem State.not_hears_of_down {s : State} {p : Port} (h : (s.comms.port p).link = .down) : ¬s.hears p :=
  fun hears => absurd (h.symm.trans hears.2) (by decide)

/-- A port that does not hear takes no frame of any class (R1, R20). -/
theorem State.received_deaf {s : State} {p : Port} (f : Frame) (h : ¬s.hears p) : s.received p f = s := by
  unfold State.received
  dsimp only
  split
  case h_9 hclass =>
    have hw : p = .w := by
      revert hclass
      unfold classOf
      split_ifs <;> simp_all
    rw [State.mgmtFrame, State.deaf_of_not_hears (hw ▸ h), if_pos rfl]
  all_goals exact State.frameEvent_deaf p _ _ f h

/-- A change of a channel that leaves the stored channel as it is changes nothing. -/
theorem State.onChannel_fixed {s : State} {e : Fin 4} {f : EngineChannel → EngineChannel}
    (h : ∀ c, s.prop.channels[e] = some c → f c = c) : s.onChannel e f = s := by
  unfold State.onChannel
  split
  · rfl
  · rename_i c hc
    rw [h c hc, State.withChannel, ← hc, put_get_id]

/-- Settles O4. -/
theorem impossibleEventsChangeNothing : Obligations.ImpossibleEventsChangeNothing := by
  have deaf {p : Port} {least : Nat} {unit : State → State} {f : Frame} {s : State}
      (h : (s.comms.port p).link = .down) : Host.Outcome.next (φ := Fault) (ρ := Refusal) (s.frameEvent p least unit f) =
        .next s := congrArg _ (State.frameEvent_deaf p least unit f (State.not_hears_of_down h))
  have held {s t : State} (h : t = s) : Host.Outcome.next (φ := Fault) (ρ := Refusal)
      (if s.restart.isSome then s else t) = .next s := by rw [h, ite_self]
  refine ⟨fun p f s h => congrArg _ (State.received_deaf f (State.not_hears_of_down h)),
    fun ch data s h => ⟨deaf h, deaf h, deaf h, deaf h⟩, fun ch data s h => ⟨deaf h, deaf h⟩, fun ch data s h => deaf h,
    fun p ch data s h => ?_, fun e s h => ?_, fun e c s hc => ?_, fun s h => ?_, fun s h => ?_, fun p s h => ?_,
    fun straps s h => ?_⟩
  · by_cases hp : p = .w
    · subst hp
      exact deaf h
    · simpa only [exec, execRudReport, if_neg hp] using deaf h
  · have nochannel (f : EngineChannel → EngineChannel) : s.onChannel e f = s :=
      State.onChannel_fixed fun c hc => absurd (h.symm.trans hc) (by simp)
    exact ⟨held (nochannel _), held (by rw [h]), held (nochannel _)⟩
  · have fixed {f : EngineChannel → EngineChannel} (hf : f c = c) : s.onChannel e f = s :=
      State.onChannel_fixed fun d hd => by rwa [← Option.some.inj (hc.symm.trans hd)]
    exact ⟨fun h => held (fixed (by simp [h])), fun h => held (by simp [hc, h]), fun h => held (fixed (by simp [h]))⟩
  · simp [exec, execHelmTimerExpiry, h]
  · simp [exec, execReleaseTimerExpiry, h]
  · simp [exec, execTransmitComplete, h]
  · simp [exec, execEndOfRestart, h]

/-! ### Stations (R25 to R27) -/

/-- A station is enabled by the words of its entry in a READY table (R25). -/
theorem State.stationEnabled_iff (s : State) (i : Fin 4) :
    s.stationEnabled i = true ↔ (s.table .station).state = .ready ∧ i.val < (s.table .station).count ∧
      s.entryWord .station i.val 0 ≠ 0 := by
  simp [State.stationEnabled, State.reaches, State.ready, and_assoc]

/-- The station of a channel is the enabled one of lowest index (R26). -/
theorem State.stationFor_eq_some (s : State) (ch : Nat) (i : Fin 4) :
    s.stationFor ch = some i ↔ (s.stationEnabled i = true ∧ s.stationChannel i = ch) ∧
      ∀ k < i, ¬(s.stationEnabled k = true ∧ s.stationChannel k = ch) := by
  rw [State.stationFor, ← Fin.find?_eq_find?_finRange, Fin.find?_eq_some_iff]
  simp only [← Bool.not_eq_true, Bool.and_eq_true, decide_eq_true_eq]

/-- Settles O18. -/
theorem repeatsAndStrangersIgnored : Obligations.RepeatsAndStrangersIgnored := by
  intro s x w enabled
  have henabled (i : Fin 4) : s.stationEnabled i = true ↔ enabled i := s.stationEnabled_iff i
  refine ⟨henabled, fun ch i => ?_, ?_⟩
  · rw [State.stationFor_eq_some]
    simp only [henabled, and_assoc]
    rfl
  · intro ch data hs q counted out
    have event {kind : StationKind} {least num : Nat} {handle : Fin 4 → State → State} {t : State}
        (hlen : least ≤ data.length) (ht : s.stationFrame kind ch.toNat data handle = t) :
        Host.Outcome.next (φ := Fault) (ρ := Refusal) (s.frameEvent .w least
          (State.stationFrame kind ch.toNat data handle) (frameOf num ch.toNat data)) = out num t := by
      rw [State.frameEvent_taken .w least _ _ hs hlen, ht]
    refine ⟨fun i hi => ?_, fun hnone => ?_⟩
    · have again {kind : StationKind} {handle : Fin 4 → State → State}
          (hq : s.station.records[i].seq kind = some q) :
          s.stationFrame kind ch.toNat data handle = counted i :=
        State.stationFrame_repeat kind ch.toNat data handle hi hq
      exact ⟨fun hl hq => event hl (again (kind := .lever) hq), fun hl hq => event hl (again (kind := .helm) hq),
        fun hl hq => event hl (again (kind := .take) hq), fun hl hq => event hl (again (kind := .watch) hq)⟩
    · have stranger {kind : StationKind} {handle : Fin 4 → State → State} :
          s.stationFrame kind ch.toNat data handle = s :=
        State.stationFrame_ignored kind ch.toNat data handle hnone
      exact ⟨fun hl => event hl stranger, fun hl => event hl stranger, fun hl => event hl stranger,
        fun hl => event hl stranger⟩

end Sys2Proof.Machine
end

section
/-! PROOF. The state after reset (every invariant of Safety.lean) and the two restarts (R24, R198, R199). -/

namespace Sys2Proof.Machine

/-! ### Power-on (R198) -/

/-- Settles O2: after reset every port is idle, every table EMPTY and no record exists. -/
theorem resetIsSound : Obligations.ResetIsSound := by
  have hports : State.reset.portsSound = true := (State.portsSound_iff _).mpr (Comms.restarted_sound Straps.low)
  have hrest : State.reset.tablesSound = true ∧ State.reset.recordsSound = true ∧ State.reset.stationsSound = true ∧
      State.reset.steeringSound = true ∧ State.reset.derateSound = true ∧ State.reset.releaseSound = true ∧
      State.reset.tanksSound = true ∧ State.reset.channelsSound = true := by
    decide
  obtain ⟨htables, hrecords, hstations, hsteering, hderate, hrelease, htanks, hchannels⟩ := hrest
  unfold Obligations.ResetIsSound State.sound
  rw [hports, htables, hrecords, hstations, hsteering, hderate, hrelease, htanks, hchannels]
  rfl

/-- Reading a vector of equal records. -/
theorem replicate_get {α : Type} {n : Nat} (x : α) (i : Fin n) : (Vector.replicate n x)[i] = x := by
  simp

/-- Settles O48: END_OF_RESTART answers `State.poweredOn`, whose fields are the values named. -/
theorem powerOnResetGivesPowerOnValues : Obligations.PowerOnResetGivesPowerOnValues := by
  intro straps s
  refine ⟨rfl, fun hr => ⟨s.coldStart straps, by simp [exec, execEndOfRestart, hr], fun p => ?_, ?_⟩⟩
  · cases p <;> rfl
  · refine ⟨replicate_get _, replicate_get _, rfl, rfl, rfl, rfl, replicate_get _, rfl, rfl, rfl, rfl, rfl,
      replicate_get _, rfl, replicate_get _, rfl, rfl, rfl, rfl, rfl, replicate_get _, replicate_get _, rfl,
      replicate_get _, rfl, rfl, fun id => replicate_get _ (tableNum id), rfl, rfl, rfl, rfl, rfl, rfl, rfl, rfl, rfl, rfl⟩

end Sys2Proof.Machine
end

section
/-! PROOF. The end of a warm restart (R24, R39, R41, R83, R106, R132, R144, R164, R175, R177, R199): what the tables read like,
what the steering unit is told, and the state as one update of what stood before. -/

namespace Sys2Proof.Machine

/-! ### The steering unit told of the couplings (R102, R103) -/

/-- What bringing a BOW actuator in step with its coupling makes of its record (R102, R103). -/
def State.gating (s : State) (j : Fin 8) (a : Actuator) : Actuator :=
  if (s.actuatorEntry j).kind ≠ .bow then a
  else if s.bowMade j then (if a.state = .gated then a.align 0 else a)
  else if a.state = .gated then a else a.gate

theorem State.actuatorEntry_congr {s t : State} (h : t.entryWord .actuator = s.entryWord .actuator) (j : Fin 8) :
    t.actuatorEntry j = s.actuatorEntry j := by
  simp only [State.actuatorEntry, h]

/-- The gating reads the tables and the coupling records alone. -/
theorem State.gating_congr {s t : State} (hm : t.mgmt = s.mgmt) (hc : t.coup = s.coup) (j : Fin 8) :
    t.gating j = s.gating j := by
  have hword : t.entryWord = s.entryWord := by
    unfold State.entryWord State.table
    rw [hm]
  funext a
  simp only [State.gating, State.bowMade, State.actuatorEntry_congr (congrFun hword _), hc]
  rfl

theorem State.gateActuator_same (s : State) (j : Fin 8) :
    (s.gateActuator j).steer.actuators[j] = (s.steer.actuators[j]).map (s.gating j) := by
  cases ha : s.steer.actuators[j] with
  | none => simp only [State.gateActuator, ha, Option.map_none]
  | some a =>
    have hstored (x : Actuator) : (s.withActuator j x).steer.actuators[j] = some x := put_get_same _ _ _
    simp only [State.gateActuator, ha, Option.map_some, State.gating]
    split_ifs
    all_goals first | exact ha | exact hstored _

theorem State.gateActuator_other (s : State) {j k : Fin 8} (h : j ≠ k) :
    (s.gateActuator j).steer.actuators[k] = s.steer.actuators[k] := by
  have hstored (x : Actuator) : (s.withActuator j x).steer.actuators[k] = s.steer.actuators[k] := put_get_other _ h _
  unfold State.gateActuator
  split
  · rfl
  · split_ifs
    all_goals first | rfl | exact hstored _

/-- Telling the steering unit brings each record in step once (R102, R103). -/
theorem State.tellSteering_actuator (s : State) (j : Fin 8) :
    s.tellSteering.steer.actuators[j] = (s.steer.actuators[j]).map (s.gating j) := by
  have hfold (l : List (Fin 8)) (hl : l.Nodup) (t : State) :
      (l.foldl (fun s j => s.gateActuator j) t).steer.actuators[j] =
        if j ∈ l then (t.steer.actuators[j]).map (t.gating j) else t.steer.actuators[j] := by
    induction l generalizing t with
    | nil => rfl
    | cons k ks ih =>
      obtain ⟨hk, hks⟩ := List.nodup_cons.mp hl
      rw [List.foldl_cons, ih hks, State.gating_congr (s := t) (by simp) (by simp)]
      by_cases hjk : k = j
      · subst hjk
        rw [if_neg hk, if_pos List.mem_cons_self, State.gateActuator_same]
      · rw [State.gateActuator_other t hjk]
        simp only [List.mem_cons, Ne.symm hjk, false_or]
  rw [State.tellSteering, hfold _ (List.nodup_finRange 8), if_pos (List.mem_finRange j)]

/-- Withdrawing from a port whose URGENT queue is empty changes nothing. -/
theorem State.withdraw_of_empty {s : State} {p : Port} (h : (s.comms.port p).urgent = [])
    (key : BitVec 11 × Option Byte) : s.withdraw p key = s := by
  have hu : (s.comms.port p).withdraw key = s.comms.port p := by
    have hnil : (s.comms.port p).urgentInFlight = [] ∧ (s.comms.port p).urgentWaiting = [] :=
      List.append_eq_nil_iff.mp ((PortUnit.urgent_split _).trans h)
    rw [PortUnit.withdraw, hnil.1, hnil.2, List.filter_nil, List.append_nil, ← h]
  unfold State.withdraw State.onPort
  rw [hu]
  cases p <;> rfl

/-- With nothing waiting on T, telling the steering unit changes its records alone. -/
theorem State.tellSteering_eq {s : State} (h : s.comms.t.urgent = []) :
    s.tellSteering = { s with steer := s.tellSteering.steer } := by
  unfold State.tellSteering
  refine List.foldlRecOn (motive := fun t : State => t = { s with steer := t.steer }) (List.finRange 8) _ rfl
    fun t ht j _ => ?_
  have hempty (a : Actuator) (key : BitVec 11 × Option Byte) :
      (t.withActuator j a).withdraw .t key = t.withActuator j a :=
    State.withdraw_of_empty (by rw [ht]; exact h) key
  have hstored (a : Actuator) : t.withActuator j a = { s with steer := (t.withActuator j a).steer } := by
    rw [ht]
    rfl
  unfold State.gateActuator
  split
  · exact ht
  · simp only [hempty]
    split_ifs
    all_goals first | exact ht | exact hstored _

/-! ### The tables after a warm restart (R199) -/

theorem Table.restarted_words (x : Table) : x.restarted.words = x.words := by
  unfold Table.restarted
  split <;> rfl

theorem Table.restarted_count (x : Table) : x.restarted.count = x.count := by
  unfold Table.restarted
  split <;> rfl

theorem Table.restarted_ready (x : Table) : x.restarted.state = .ready ↔ x.state = .ready := by
  unfold Table.restarted
  split
  · rename_i h
    simp [h]
  · rfl

section Reading

variable {s b : State} (hb : b.mgmt = s.mgmt.restarted)

include hb

theorem State.table_restarted (t : TableId) : b.table t = (s.table t).restarted := by
  unfold State.table
  rw [hb]
  exact remap_get _ _ (tableNum t)

theorem State.entryWord_restarted : b.entryWord = s.entryWord := by
  funext t i k
  unfold State.entryWord Table.word
  rw [State.table_restarted hb, Table.restarted_words]

theorem State.ready_restarted (t : TableId) : b.ready t = s.ready t := by
  unfold State.ready
  rw [State.table_restarted hb]
  exact decide_eq_decide.mpr (Table.restarted_ready _)

theorem State.reaches_restarted (t : TableId) (i : Nat) : b.reaches t i = s.reaches t i := by
  unfold State.reaches
  rw [State.ready_restarted hb, State.table_restarted hb, Table.restarted_count]

theorem State.engineEnabled_restarted (e : Fin 4) : b.engineEnabled e = s.engineEnabled e := by
  unfold State.engineEnabled
  rw [State.reaches_restarted hb, State.entryWord_restarted hb]

theorem State.engineEntry_restarted (e : Fin 4) : b.engineEntry e = s.engineEntry e := by
  unfold State.engineEntry
  rw [State.entryWord_restarted hb]

theorem State.actuatorEntry_restarted (j : Fin 8) : b.actuatorEntry j = s.actuatorEntry j :=
  State.actuatorEntry_congr (congrFun (State.entryWord_restarted hb) _) j

end Reading

/-! ### The units (R41, R83, R106, R132) -/

/-- The channels after a warm restart: one for each enabled entry, as it comes into being (R83). -/
theorem State.restartPropulsion_channel (s : State) (e : Fin 4) :
    s.restartPropulsion.prop.channels[e] =
      if s.engineEnabled e then some (newChannel (s.engineEntry e).idle s.params.reversalDwell) else none := by
  unfold State.restartPropulsion
  dsimp only
  split
  · simp [State.createChannels]
  · rename_i hready
    have hoff : s.engineEnabled e = false := by simp [State.engineEnabled, State.reaches, hready]
    simp [State.dropChannels, hoff]

theorem State.restartPropulsion_sync (s : State) :
    s.restartPropulsion.prop.sync1 = none ∧ s.restartPropulsion.prop.sync2 = none := by
  unfold State.restartPropulsion
  dsimp only
  split <;> exact ⟨rfl, rfl⟩

theorem State.restartPropulsion_eq (s : State) : s.restartPropulsion = { s with prop := s.restartPropulsion.prop } := by
  unfold State.restartPropulsion
  dsimp only
  split <;> rfl

theorem State.restartCouplings_eq (s : State) : s.restartCouplings = { s with coup := s.restartCouplings.coup } := by
  unfold State.restartCouplings
  dsimp only
  split <;> rfl

theorem State.restartCouplings_timers (s : State) : s.restartCouplings.coup.pollTimer = s.params.pollInterval ∧
    s.restartCouplings.coup.slot = none ∧ s.restartCouplings.coup.releaseTimer = none := by
  unfold State.restartCouplings
  dsimp only
  split <;> exact ⟨rfl, rfl, rfl⟩

/-- The candidate reads the coupling records and the tables alone (R123). -/
theorem State.candidate_congr {s t : State} (hr : t.coup.records = s.coup.records) (hm : t.mgmt = s.mgmt) :
    t.candidate = s.candidate := by
  unfold State.candidate State.contributionOf State.couplingEntry State.table
  rw [hr, hm]

/-- With COUPLING READY the records are kept as R132 says, and the level becomes the candidate. -/
theorem State.restartCouplings_ready {s : State} (h : s.ready .coupling = true) :
    s.restartCouplings.coup.walk = 0 ∧ s.restartCouplings.coup.hold = 0 ∧
      s.restartCouplings.coup.level = s.restartCouplings.candidate ∧
      ∀ i : Fin 48, s.restartCouplings.coup.records[i] = (s.coup.records[i]).map CouplingRecord.restarted := by
  unfold State.restartCouplings
  rw [if_pos h]
  exact ⟨rfl, rfl, State.candidate_congr rfl rfl, fun i => remap_get _ _ i⟩

/-- Otherwise every record ceases, and the tow items are kept. -/
theorem State.restartCouplings_not_ready {s : State} (h : s.ready .coupling = false) :
    (∀ i : Fin 48, s.restartCouplings.coup.records[i] = none) ∧ s.restartCouplings.coup.walk = s.coup.walk ∧
      s.restartCouplings.coup.level = s.coup.level ∧ s.restartCouplings.coup.hold = s.coup.hold := by
  unfold State.restartCouplings
  rw [if_neg (by simp [h])]
  exact ⟨replicate_get _, rfl, rfl, rfl⟩

theorem State.gateActuator_steeringTimer (s : State) (j : Fin 8) :
    (s.gateActuator j).steer.steeringTimer = s.steer.steeringTimer := by
  unfold State.gateActuator
  (repeat' split) <;> rfl

theorem State.gateActuator_helmFresh (s : State) (j : Fin 8) :
    (s.gateActuator j).steer.helmFresh = s.steer.helmFresh := by
  unfold State.gateActuator
  (repeat' split) <;> rfl

theorem State.gateActuator_helmTimer (s : State) (j : Fin 8) :
    (s.gateActuator j).steer.helmTimer = s.steer.helmTimer := by
  unfold State.gateActuator
  (repeat' split) <;> rfl

@[simp] theorem State.tellSteering_steeringTimer (s : State) :
    s.tellSteering.steer.steeringTimer = s.steer.steeringTimer := by
  unfold State.tellSteering
  exact foldl_field (fun t => t.steer.steeringTimer) (f := fun t j => t.gateActuator j) State.gateActuator_steeringTimer _ s

@[simp] theorem State.tellSteering_helmFresh (s : State) : s.tellSteering.steer.helmFresh = s.steer.helmFresh := by
  unfold State.tellSteering
  exact foldl_field (fun t => t.steer.helmFresh) (f := fun t j => t.gateActuator j) State.gateActuator_helmFresh _ s

@[simp] theorem State.tellSteering_helmTimer (s : State) : s.tellSteering.steer.helmTimer = s.steer.helmTimer := by
  unfold State.tellSteering
  exact foldl_field (fun t => t.steer.helmTimer) (f := fun t j => t.gateActuator j) State.gateActuator_helmTimer _ s

theorem State.restartSteering_timers (s : State) :
    s.restartSteering.steer.steeringTimer = s.params.steerInterval ∧ s.restartSteering.steer.helmFresh = .held ∧
      s.restartSteering.steer.helmTimer = none := by
  simp [State.restartSteering]

/-- The actuator records after a warm restart: kept while ACTUATOR is READY, and brought in step with the couplings
(R106). -/
theorem State.restartSteering_actuator (s : State) (j : Fin 8) :
    s.restartSteering.steer.actuators[j] =
      if s.ready .actuator then (s.steer.actuators[j]).map fun a => s.gating j a.restarted else none := by
  rw [State.restartSteering, State.tellSteering_actuator, State.gating_congr (s := s) rfl rfl]
  dsimp only
  split
  · rw [remap_get, Option.map_map]
    rfl
  · rw [replicate_get, Option.map_none]

theorem State.restartSteering_eq {s : State} (h : s.comms.t.urgent = []) :
    s.restartSteering = { s with steer := s.restartSteering.steer } := by
  unfold State.restartSteering
  rw [State.tellSteering_eq (by exact h)]

/-! ### The whole part (R199) -/

/-- The part at the end of a warm restart before the propulsion unit, the supervisor and the steering unit take their
restart values. -/
def State.warmBase (straps : Straps) (s : State) : State :=
  { s with comms := Comms.restarted straps, station := s.station.restarted, fuel := s.fuel.restarted,
           mgmt := s.mgmt.restarted, straps := straps, channel := straps.mch, restart := none, replyWait := none }

/-- The part at the end of a warm restart before the steering unit takes its restart values. -/
def State.warmTow (straps : Straps) (s : State) : State := (s.warmBase straps).restartPropulsion.restartCouplings

theorem State.warmTow_eq (straps : Straps) (s : State) : s.warmTow straps = { s.warmBase straps with
    prop := (s.warmBase straps).restartPropulsion.prop
    coup := (s.warmBase straps).restartPropulsion.restartCouplings.coup } := by
  rw [State.warmTow, State.restartCouplings_eq, State.restartPropulsion_eq]

theorem State.warm_eq_restartSteering (straps : Straps) (s : State) :
    s.warm straps = (s.warmTow straps).restartSteering := rfl

theorem State.warm_eq (straps : Straps) (s : State) : s.warm straps = { s.warmBase straps with
    prop := (s.warmBase straps).restartPropulsion.prop
    coup := (s.warmTow straps).coup
    steer := (s.warm straps).steer } := by
  rw [State.warm_eq_restartSteering, State.restartSteering_eq (by rw [State.warmTow_eq]; rfl), State.warmTow_eq]

section Warm

variable (straps : Straps) (s : State)

theorem State.warm_comms : (s.warm straps).comms = Comms.restarted straps :=
  (congrArg State.comms (s.warm_eq straps)).trans rfl

theorem State.warm_station : (s.warm straps).station = s.station.restarted :=
  (congrArg State.station (s.warm_eq straps)).trans rfl

theorem State.warm_prop : (s.warm straps).prop = (s.warmBase straps).restartPropulsion.prop :=
  (congrArg State.prop (s.warm_eq straps)).trans rfl

theorem State.warm_coup : (s.warm straps).coup = (s.warmTow straps).coup :=
  (congrArg State.coup (s.warm_eq straps)).trans rfl

theorem State.warm_fuel : (s.warm straps).fuel = s.fuel.restarted :=
  (congrArg State.fuel (s.warm_eq straps)).trans rfl

theorem State.warm_mgmt : (s.warm straps).mgmt = s.mgmt.restarted :=
  (congrArg State.mgmt (s.warm_eq straps)).trans rfl

theorem State.warmTow_mgmt : (s.warmTow straps).mgmt = s.mgmt.restarted :=
  (congrArg State.mgmt (s.warmTow_eq straps)).trans rfl

theorem State.warm_params : (s.warm straps).params = s.params :=
  (congrArg State.params (s.warm_eq straps)).trans rfl

theorem State.warm_straps : (s.warm straps).straps = straps :=
  (congrArg State.straps (s.warm_eq straps)).trans rfl

theorem State.warm_channel : (s.warm straps).channel = straps.mch :=
  (congrArg State.channel (s.warm_eq straps)).trans rfl

theorem State.warm_restart : (s.warm straps).restart = none :=
  (congrArg State.restart (s.warm_eq straps)).trans rfl

theorem State.warm_replyWait : (s.warm straps).replyWait = none :=
  (congrArg State.replyWait (s.warm_eq straps)).trans rfl

theorem State.warm_pending : (s.warm straps).pending = s.pending :=
  (congrArg State.pending (s.warm_eq straps)).trans rfl

/-- The engine channels after a warm restart, by the ENGINE table as it stood (R83). -/
theorem State.warm_engine (e : Fin 4) : (s.warm straps).prop.channels[e] =
    if s.engineEnabled e then some (newChannel (s.engineEntry e).idle s.params.reversalDwell) else none := by
  rw [State.warm_prop, State.restartPropulsion_channel, State.engineEnabled_restarted (s := s) rfl,
    State.engineEntry_restarted (s := s) rfl]
  rfl

theorem State.warmBase_restartPropulsion_ready (t : TableId) :
    (s.warmBase straps).restartPropulsion.ready t = s.ready t := by
  rw [State.restartPropulsion_eq]
  exact State.ready_restarted rfl t

/-- The tow while COUPLING is READY (R132). -/
theorem State.warm_coup_ready (h : s.ready .coupling = true) : (s.warm straps).coup.walk = 0 ∧
    (s.warm straps).coup.hold = 0 ∧ (s.warm straps).coup.level = (s.warm straps).candidate ∧
    ∀ i : Fin 48, (s.warm straps).coup.records[i] = (s.coup.records[i]).map CouplingRecord.restarted := by
  have hcandidate : (s.warm straps).candidate = (s.warmTow straps).candidate :=
    State.candidate_congr (congrArg _ (State.warm_coup straps s))
      ((State.warm_mgmt straps s).trans (State.warmTow_mgmt straps s).symm)
  rw [hcandidate, State.warm_coup, State.warmTow]
  obtain ⟨hwalk, hhold, hlevel, hrecords⟩ :=
    State.restartCouplings_ready ((s.warmBase_restartPropulsion_ready straps .coupling).trans h)
  refine ⟨hwalk, hhold, hlevel, fun i => (hrecords i).trans ?_⟩
  rw [State.restartPropulsion_eq]
  rfl

/-- The tow while COUPLING is not READY (R132). -/
theorem State.warm_coup_not_ready (h : s.ready .coupling = false) :
    (∀ i : Fin 48, (s.warm straps).coup.records[i] = none) ∧ (s.warm straps).coup.walk = s.coup.walk ∧
      (s.warm straps).coup.level = s.coup.level ∧ (s.warm straps).coup.hold = s.coup.hold := by
  rw [State.warm_coup, State.warmTow]
  have htow := State.restartCouplings_not_ready ((s.warmBase_restartPropulsion_ready straps .coupling).trans h)
  have hcoup : (s.warmBase straps).restartPropulsion.coup = s.coup := by
    rw [State.restartPropulsion_eq]
    rfl
  rw [hcoup] at htow
  exact htow

theorem State.warm_coup_timers : (s.warm straps).coup.pollTimer = s.params.pollInterval ∧
    (s.warm straps).coup.slot = none ∧ (s.warm straps).coup.releaseTimer = none := by
  have hparams : (s.warmBase straps).restartPropulsion.params = s.params := by
    rw [State.restartPropulsion_eq]
    rfl
  rw [State.warm_coup, State.warmTow, ← hparams]
  exact State.restartCouplings_timers _

theorem State.warm_steer_timers : (s.warm straps).steer.steeringTimer = s.params.steerInterval ∧
    (s.warm straps).steer.helmFresh = .held ∧ (s.warm straps).steer.helmTimer = none := by
  have hparams : (s.warmTow straps).params = s.params := (congrArg State.params (s.warmTow_eq straps)).trans rfl
  rw [State.warm_eq_restartSteering, ← hparams]
  exact State.restartSteering_timers _

/-- A coupling is MADE as the steering unit reads it (R102). -/
theorem State.bowMade_iff {j : Fin 8} {x : ActuatorEntry} {c : CouplingUnit} (hx : s.actuatorEntry j = x)
    (hc : s.coup = c) : s.bowMade j = true ↔ ∃ r, c.records[x.bow] = some r ∧ r.state = .made := by
  subst hx hc
  unfold State.bowMade
  split <;> simp_all

/-- A record in ALIGN is brought in step by gating it when its coupling is not MADE (R102, R106). -/
theorem State.gating_restarted (j : Fin 8) (a : Actuator) : s.gating j a.restarted =
    if (s.actuatorEntry j).kind = .bow ∧ ¬s.bowMade j = true then a.restarted.gate else a.restarted := by
  have halign : a.restarted.state ≠ .gated := by simp [Actuator.restarted, Actuator.align]
  unfold State.gating
  by_cases hkind : (s.actuatorEntry j).kind = .bow <;> by_cases hmade : s.bowMade j = true <;>
    simp [hkind, hmade, halign]

theorem State.warmTow_actuatorEntry (j : Fin 8) : (s.warmTow straps).actuatorEntry j = s.actuatorEntry j :=
  State.actuatorEntry_restarted (State.warmTow_mgmt straps s) j

theorem State.warmTow_bowMade_iff (j : Fin 8) : (s.warmTow straps).bowMade j = true ↔
    ∃ r, (s.warm straps).coup.records[(s.actuatorEntry j).bow] = some r ∧ r.state = .made :=
  State.bowMade_iff _ (s.warmTow_actuatorEntry straps j) (s.warm_coup straps).symm

/-- The actuator records after a warm restart, by the ACTUATOR table as it stood and the couplings as they stand
(R102, R106). -/
theorem State.warm_actuator (j : Fin 8) : (s.warm straps).steer.actuators[j] =
    if s.ready .actuator then (s.steer.actuators[j]).map fun a =>
      if (s.actuatorEntry j).kind = .bow ∧ ¬(s.warmTow straps).bowMade j = true then a.restarted.gate else a.restarted
    else none := by
  have hsteer : (s.warmTow straps).steer = s.steer := (congrArg State.steer (s.warmTow_eq straps)).trans rfl
  rw [State.warm_eq_restartSteering, State.restartSteering_actuator, hsteer,
    State.ready_restarted (State.warmTow_mgmt straps s) .actuator]
  simp only [State.gating_restarted, State.warmTow_actuatorEntry]

end Warm

/-- The values of a channel that comes into being (R44, R64, R69). -/
theorem newChannel_values (idle load : Nat) (c : EngineChannel) (h : c = newChannel idle load) :
    c.gear = (if load = 0 then .neutral else .dwell) ∧ c.engaged = .neutral ∧
    c.dwellTimer = (if load = 0 then none else some load) ∧
    c.fresh = .idled ∧ c.freshTimer = none ∧ c.holdTimer = none ∧ c.repRpm = 0 ∧ c.repGear = .neutral ∧
    c.reported = false ∧ c.trim = 0 ∧ c.c = idle ∧ c.a = 0 ∧ c.ramp = .none ∧
    c.lastRaw = c.c ∧ c.lastTarget = c.c ∧ c.lastCap = c.c ∧ c.lastOutput = c.c ∧ c.lastD = 0 ∧
    c.lastDir = .neutral ∧ c.lastDetent = 1 ∧ c.fuelCap = false := by
  subst h
  by_cases hload : load = 0 <;> simp [newChannel, EngineChannel.enterDwell, hload]

/-- Settles O49: each clause is the restart value of its unit. -/
theorem warmRestartKeepsTheAccount : Obligations.WarmRestartKeepsTheAccount := by
  intro straps s
  refine ⟨fun hr => ?_, fun hr => ⟨s.warm straps, by simp [exec, execEndOfRestart, hr], ?_⟩⟩
  · simp [exec, execWarmRestart, State.enterRestart, hr]
  obtain ⟨hsteering, hfresh, hhelm⟩ := s.warm_steer_timers straps
  obtain ⟨hpoll, hslot, hrelease⟩ := s.warm_coup_timers straps
  obtain ⟨hsync1, hsync2⟩ := (s.warmBase straps).restartPropulsion_sync
  have hramp : (s.warmBase straps).restartPropulsion.prop.rampTimer = s.params.propInterval := rfl
  have hactuator := s.warm_actuator straps
  rw [← State.warm_prop] at hsync1 hsync2 hramp
  refine ⟨fun p => ?_, fun n => ?_, fun i => ?_, ?_, ?_, ?_, hramp, hsync1, hsync2, fun e he => ?_, fun e he => ?_,
    hsteering, hfresh, hhelm, fun j hj => ?_, fun j a hj ha => ?_, hpoll, hslot, hrelease,
    s.warm_coup_not_ready straps, s.warm_coup_ready straps, fun i => ?_, ?_, ?_, ?_, ?_, ?_, fun id => ?_, ?_, ?_, ?_, ?_,
    s.warm_params straps, s.warm_straps straps, s.warm_channel straps, s.warm_restart straps, s.warm_replyWait straps,
    s.warm_pending straps⟩
  · rw [State.warm_comms]
    cases p <;> rfl
  · rw [State.warm_comms]
    exact replicate_get _ n
  · rw [State.warm_station]
    exact remap_get _ _ i
  · rw [State.warm_station]
    rfl
  · rw [State.warm_station]
    rfl
  · rw [State.warm_station]
    rfl
  · rw [State.warm_engine, he]
    rfl
  · exact ⟨_, by rw [State.warm_engine, he]; rfl, newChannel_values _ _ _ rfl⟩
  · rw [hactuator]
    rcases hj with hj | hj <;> simp [hj]
  · intro made gated
    have hrecord := hactuator j
    have hgated : gated ↔ (s.actuatorEntry j).kind = .bow ∧ ¬(s.warmTow straps).bowMade j = true :=
      and_congr_right fun _ => not_congr (s.warmTow_bowMade_iff straps j).symm
    rw [hj, ha] at hrecord
    exact ⟨fun hg => hrecord.trans (congrArg some (if_pos (hgated.mp hg))),
      fun hg => hrecord.trans (congrArg some (if_neg (mt hgated.mpr hg)))⟩
  · rw [State.warm_fuel]
    exact remap_get _ _ i
  · rw [State.warm_fuel]
    rfl
  · rw [State.warm_fuel]
    rfl
  · rw [State.warm_fuel]
    rfl
  · rw [State.warm_fuel]
    rfl
  · rw [State.warm_fuel]
    rfl
  · exact State.table_restarted (s.warm_mgmt straps) id
  all_goals
    rw [State.warm_mgmt]
    rfl

end Sys2Proof.Machine
end

section
/-! PROOF. The command station's shadows are the demands after every step (R30, EveryStepKeepsShadows): what each command
leaves of the station unit, then the events that do change it. -/

namespace Sys2Proof.Machine

/-! ### The command station's shadows -/

/-- The command station's shadows are the demands (R30). -/
structure StationUnit.Shadowed (u : StationUnit) : Prop where
  lever : u.records[u.command].lever = u.lever
  helm : u.records[u.command].helm = u.helm

theorem State.stationsSound_iff (s : State) : s.stationsSound = true ↔ s.station.Shadowed := by
  simp only [State.stationsSound, Bool.and_eq_true, decide_eq_true_eq]
  exact ⟨fun ⟨hlever, hhelm⟩ => ⟨hlever, hhelm⟩, fun ⟨hlever, hhelm⟩ => ⟨hlever, hhelm⟩⟩

/-- What leaves the station unit leaves the shadows. -/
theorem StationUnit.Shadowed.of_eq {u v : StationUnit} (h : u.Shadowed) (heq : v = u) : v.Shadowed := heq ▸ h

/-- A record stored with the shadows it had keeps the command station's. -/
theorem StationUnit.Shadowed.store {u : StationUnit} (h : u.Shadowed) {i : Fin 4} {r : StationRecord}
    (hlever : r.lever = u.records[i].lever) (hhelm : r.helm = u.records[i].helm) :
    ({ u with records := put u.records i r } : StationUnit).Shadowed := by
  constructor
  · dsimp only
    rw [put_get]
    split
    · rename_i hi
      rw [hlever, hi, h.lever]
    · exact h.lever
  · dsimp only
    rw [put_get]
    split
    · rename_i hi
      rw [hhelm, hi, h.helm]
    · exact h.helm

/-- A record of another station leaves the command station's shadows. -/
theorem StationUnit.Shadowed.store_other {u : StationUnit} (h : u.Shadowed) {i : Fin 4} (r : StationRecord)
    (hi : i ≠ u.command) : ({ u with records := put u.records i r } : StationUnit).Shadowed :=
  ⟨by dsimp only; rw [put_get_other _ hi, h.lever], by dsimp only; rw [put_get_other _ hi, h.helm]⟩

/-! ### Management commands leave the station unit alone -/

@[simp] theorem State.says_state (s : State) (st : Status) (results : List Byte) : (s.says st results).state = s := rfl

section Answers

variable (s : State) (args : List Byte)

/-- Both answers of a command with required arguments leave the station unit. -/
theorem State.needs_station (n : Nat) {a : Answer} (h : a.state.station = s.station) :
    (s.needs n args a).state.station = s.station := by
  unfold State.needs
  split
  · rfl
  · exact h

@[simp] theorem State.afterOpen_station (t : TableId) : (s.afterOpen t).station = s.station := by
  cases t <;> simp [State.afterOpen]

@[simp] theorem State.openTable_station (t : TableId) (n : Nat) : (s.openTable t n).station = s.station := by
  simp [State.openTable]

@[simp] theorem State.storeParam_station (p : Param) (v : Nat) : (s.storeParam p v).station = s.station := by
  unfold State.storeParam
  dsimp only
  split <;> simp

@[simp] theorem State.tableOpen_station : (s.tableOpen args).state.station = s.station := by
  refine State.needs_station s args 2 ?_
  (repeat' split) <;> simp

@[simp] theorem State.tableWrite_station : (s.tableWrite args).state.station = s.station := by
  unfold State.tableWrite
  dsimp only
  (repeat' split) <;> simp

@[simp] theorem State.tableSeek_station : (s.tableSeek args).state.station = s.station := by
  refine State.needs_station s args 3 ?_
  (repeat' split) <;> simp

@[simp] theorem State.tableRead_station : (s.tableRead args).state.station = s.station := by
  unfold State.tableRead
  dsimp only
  (repeat' split) <;> simp

@[simp] theorem State.tableStateOf_station : (s.tableStateOf args).state.station = s.station := by
  refine State.needs_station s args 1 ?_
  split <;> rfl

@[simp] theorem State.setParam_station : (s.setParam args).state.station = s.station := by
  refine State.needs_station s args 5 ?_
  split <;> simp

@[simp] theorem State.getParam_station : (s.getParam args).state.station = s.station := by
  refine State.needs_station s args 1 ?_
  split <;> rfl

@[simp] theorem State.recordRead_station : (s.recordRead args).state.station = s.station := by
  refine State.needs_station s args 3 ?_
  (repeat' split) <;> rfl

@[simp] theorem State.noticeClear_station : (s.noticeClear args).state.station = s.station := by
  unfold State.noticeClear
  refine State.needs_station s args 3 ?_
  rw [State.says_state]

@[simp] theorem State.snapCapture_station : (s.snapCapture args).state.station = s.station := by
  simp [State.snapCapture]

@[simp] theorem State.snapRead_station : (s.snapRead args).state.station = s.station := by
  refine State.needs_station s args 1 ?_
  (repeat' split) <;> rfl

@[simp] theorem State.bunkerTank_station : (s.bunkerTank args).state.station = s.station := by
  refine State.needs_station s args 4 ?_
  (repeat' split) <;> simp

@[simp] theorem State.transferFuel_station : (s.transferFuel args).state.station = s.station := by
  refine State.needs_station s args 5 ?_
  (repeat' split) <;> simp

@[simp] theorem State.requestRelease_station : (s.requestRelease args).state.station = s.station := by
  refine State.needs_station s args 1 ?_
  (repeat' split) <;> simp

@[simp] theorem State.detachCoupling_station : (s.detachCoupling args).state.station = s.station := by
  refine State.needs_station s args 1 ?_
  (repeat' split) <;> simp

@[simp] theorem State.attachCoupling_station : (s.attachCoupling args).state.station = s.station := by
  refine State.needs_station s args 1 ?_
  (repeat' split) <;> simp

@[simp] theorem State.pollOne_station : (s.pollOne args).state.station = s.station := by
  refine State.needs_station s args 1 ?_
  (repeat' split) <;> simp

@[simp] theorem State.resetActuator_station : (s.resetActuator args).state.station = s.station := by
  refine State.needs_station s args 1 ?_
  (repeat' split) <;> simp

@[simp] theorem State.requestRestart_station (tag : Byte) : (s.requestRestart tag).station = s.station := by
  unfold State.requestRestart
  (repeat' split) <;> rfl

@[simp] theorem State.transmitted_station (p : Port) : (s.transmitted p).station = s.station := by
  unfold State.transmitted State.replySent
  dsimp only
  (repeat' split) <;> rfl

@[simp] theorem State.linkGone_station (p : Port) : (s.linkGone p).station = s.station := by
  unfold State.linkGone
  dsimp only
  (repeat' split) <;> rfl

end Answers

section Keeping

variable {s : State}

theorem State.counterRead_shadowed (args : List Byte) (h : s.station.Shadowed) :
    (s.counterRead args).state.station.Shadowed := by
  have zeroed (c : Counter) : (s.zeroed c).station.Shadowed := by
    cases c with
    | repeats i => exact h.store rfl rfl
    | _ => exact h
  unfold State.counterRead State.needs
  split
  · exact h
  · split
    · exact h
    · split
      · exact h
      · show (if _ then _ else s).station.Shadowed
        split
        · exact zeroed _
        · exact h

/-- A STATION load takes the command station's shadows from the demands (R37). -/
theorem State.reloadStations_shadowed (s : State) : s.reloadStations.station.Shadowed := by
  constructor <;> simp [State.stationAtLoad]

theorem State.afterReady_shadowed (t : TableId) (h : s.station.Shadowed) : (s.afterReady t).station.Shadowed := by
  cases t with
  | station => exact s.reloadStations_shadowed
  | _ => exact h.of_eq (by simp [State.afterReady, State.createActuators])

theorem State.tableClose_shadowed (args : List Byte) (h : s.station.Shadowed) :
    (s.tableClose args).state.station.Shadowed := by
  unfold State.tableClose State.needs
  (repeat' split)
  · exact h
  · exact h
  · exact State.afterReady_shadowed _ h
  · exact h

theorem commandBody_shadowed (code : Nat) (args : List Byte) (h : s.station.Shadowed) :
    (commandBody code args s).state.station.Shadowed := by
  unfold commandBody
  split
  case h_3 => exact State.tableClose_shadowed args h
  case h_10 => exact State.counterRead_shadowed args h
  all_goals exact h.of_eq (by simp)

theorem State.managed_shadowed (tag : Byte) {body : State → Answer} (hb : (body s).state.station.Shadowed)
    (h : s.station.Shadowed) : (s.managed tag body).station.Shadowed := by
  unfold State.managed
  split
  · exact h
  · exact hb

/-! ### Station frames (R26 to R34) -/

theorem State.stationFrame_shadowed (k : StationKind) (ch : Nat) (data : List Byte) {handle : Fin 4 → State → State}
    (hh : ∀ i (t : State), t.station.Shadowed → (handle i t).station.Shadowed) (h : s.station.Shadowed) :
    (s.stationFrame k ch data handle).station.Shadowed := by
  unfold State.stationFrame
  dsimp only
  split
  · exact h
  · split
    · exact h.store rfl rfl
    · refine hh _ _ (h.store ?_ ?_) <;> cases k <;> rfl

/-- A LEVER changes shadows and demands of the command station alike (R28, R30). -/
theorem State.leverFrom_shadowed (data : List Byte) (i : Fin 4) (h : s.station.Shadowed) :
    (s.leverFrom data i).station.Shadowed := by
  unfold State.leverFrom
  dsimp only
  split
  · rename_i hi
    subst hi
    constructor
    · simpa using congrArg (leversAfter · (byteAt data 1) (clampInt (-1024) 1024 (s16At data 2))) h.lever
    · simpa using h.helm
  · rename_i hi
    exact h.store_other _ hi

/-- A HELM changes shadow and demand of the command station alike (R29, R30). -/
theorem State.helmFrom_shadowed (data : List Byte) (i : Fin 4) (h : s.station.Shadowed) :
    (s.helmFrom data i).station.Shadowed := by
  unfold State.helmFrom
  dsimp only
  split
  · rename_i hi
    subst hi
    constructor
    · simpa using h.lever
    · simp
  · rename_i hi
    exact h.store_other _ hi

/-- A grant takes the demands from the shadows of the station it makes the command station (R34). -/
theorem State.grantTake_shadowed (s : State) (i : Fin 4) : (s.grantTake i).station.Shadowed := by
  constructor <;> simp [State.grantTake]

theorem State.takeFrom_shadowed (data : List Byte) (i : Fin 4) (h : s.station.Shadowed) :
    (s.takeFrom data i).station.Shadowed := by
  unfold State.takeFrom
  split
  · exact h
  · split
    · exact h
    · split
      · exact s.grantTake_shadowed i
      · split
        · exact s.grantTake_shadowed i
        · exact h

theorem State.watchFrom_shadowed (i : Fin 4) (h : s.station.Shadowed) : (s.watchFrom i).station.Shadowed := by
  unfold State.watchFrom
  split
  · exact h.of_eq (by simp)
  · exact h

/-- A received frame keeps the shadows when its unit does (R2, R4, R7). -/
theorem State.frameEvent_shadowed (p : Port) (least : Nat) {unit : State → State} (f : Frame)
    (hu : (unit s).station.Shadowed) (h : s.station.Shadowed) : (s.frameEvent p least unit f).station.Shadowed := by
  unfold State.frameEvent
  split
  · exact h
  · rw [State.forward_station]
    split
    · exact h
    · exact hu

/-! ### Restarts (R38, R39) -/

/-- A warm restart clears the lever shadows and demands and keeps the helm's (R39). -/
theorem StationUnit.Shadowed.restarted {u : StationUnit} (h : u.Shadowed) : u.restarted.Shadowed := by
  constructor
  · simp [StationUnit.restarted, StationRecord.blank]
  · simpa [StationUnit.restarted] using h.helm

theorem State.poweredOn_shadowed (straps : Straps) (pending : List Instr) :
    (State.poweredOn straps pending).station.Shadowed := ⟨replicate_get _ _ ▸ rfl, replicate_get _ _ ▸ rfl⟩

/-! ### Frames received and the step -/

theorem State.mgmtFrame_shadowed (f : Frame) (h : s.station.Shadowed) : (s.mgmtFrame f).station.Shadowed := by
  unfold State.mgmtFrame State.command
  split
  · exact h
  · split
    · exact h
    · split
      · exact h.of_eq (State.requestRestart_station s _)
      · exact State.managed_shadowed _ (commandBody_shadowed _ _ h) h

theorem State.received_shadowed (p : Port) (f : Frame) (h : s.station.Shadowed) : (s.received p f).station.Shadowed := by
  have station (k : StationKind) (least : Nat) {handle : Fin 4 → State → State}
      (hh : ∀ i (t : State), t.station.Shadowed → (handle i t).station.Shadowed) :
      (s.frameEvent p least (State.stationFrame k (channelOf f) f.data handle) f).station.Shadowed :=
    State.frameEvent_shadowed p least f (State.stationFrame_shadowed k _ f.data hh h) h
  have other (least : Nat) {unit : State → State} (hu : (unit s).station = s.station) :
      (s.frameEvent p least unit f).station.Shadowed :=
    State.frameEvent_shadowed p least f (h.of_eq hu) h
  unfold State.received
  dsimp only
  split
  · exact station .lever 4 fun i _ => State.leverFrom_shadowed _ i
  · exact station .helm 3 fun i _ => State.helmFrom_shadowed _ i
  · exact station .take 2 fun i _ => State.takeFrom_shadowed _ i
  · exact station .watch 1 fun i _ => State.watchFrom_shadowed i
  · exact other 3 (State.takeGovReport_station _ _ s)
  · exact other 2 (State.takeRudReport_station p _ _ s)
  · exact other 4 (State.takeCoupleReport_station _ _ s)
  · exact other 4 (State.takeFlow_station _ _ s)
  · exact State.mgmtFrame_shadowed f h
  · exact other 0 rfl

/-- Every command keeps the command station's shadows (R30). A management row is the command of its code. -/
theorem exec_shadowed (c : Instr) {t : State} (h : s.station.Shadowed) (he : exec c s = .next t) :
    t.station.Shadowed := by
  have held {u : State} (hu : u.station = s.station) : (if s.restart.isSome then s else u).station.Shadowed := by
    split
    · exact h
    · exact h.of_eq hu
  have command (tag : Byte) (code : Nat) (args : List Byte) :
      (s.managed tag (commandBody code args)).station.Shadowed :=
    State.managed_shadowed tag (commandBody_shadowed code args h) h
  have station (k : StationKind) (ch least kind : Nat) (data : List Byte) {handle : Fin 4 → State → State}
      (hh : ∀ i (u : State), u.station.Shadowed → (handle i u).station.Shadowed) :
      (s.frameEvent .w least (State.stationFrame k ch data handle) (frameOf kind ch data)).station.Shadowed :=
    State.frameEvent_shadowed .w least _ (State.stationFrame_shadowed k ch data hh h) h
  have other (p : Port) (least : Nat) (f : Frame) {unit : State → State} (hu : (unit s).station = s.station) :
      (s.frameEvent p least unit f).station.Shadowed :=
    State.frameEvent_shadowed p least f (h.of_eq hu) h
  cases c <;> obtain rfl := Host.Outcome.next.inj he
  case frameReceived p f => exact State.received_shadowed p f h
  case transmitComplete p =>
    split
    · exact h
    · exact h.of_eq (State.transmitted_station s p)
  case linkLost p => exact held (State.linkGone_station s p)
  case linkRestored p => exact held rfl
  case lever ch data => exact station .lever ch.toNat 4 5 data fun i _ => State.leverFrom_shadowed data i
  case helm ch data => exact station .helm ch.toNat 3 6 data fun i _ => State.helmFrom_shadowed data i
  case take ch data => exact station .take ch.toNat 2 10 data fun i _ => State.takeFrom_shadowed data i
  case watch ch data => exact station .watch ch.toNat 1 13 data fun i _ => State.watchFrom_shadowed i
  case govReport ch data => exact other .m 3 _ (State.takeGovReport_station _ data s)
  case rudReport p ch data =>
    split
    · exact other .w 0 _ rfl
    · exact other p 2 _ (State.takeRudReport_station p _ data s)
  case coupleReport ch data => exact other .t 4 _ (State.takeCoupleReport_station _ data s)
  case flow ch data => exact other .m 4 _ (State.takeFlow_station _ data s)
  case tableOpen tag args => exact command tag 0x01 args
  case tableWrite tag args => exact command tag 0x02 args
  case tableClose tag args => exact command tag 0x03 args
  case tableReadSeek tag args => exact command tag 0x04 args
  case tableRead tag args => exact command tag 0x05 args
  case tableState tag args => exact command tag 0x06 args
  case setParam tag args => exact command tag 0x10 args
  case getParam tag args => exact command tag 0x11 args
  case recordRead tag args => exact command tag 0x20 args
  case counterRead tag args => exact command tag 0x21 args
  case noticeClear tag args => exact command tag 0x22 args
  case snapCapture tag args => exact command tag 0x30 args
  case snapRead tag args => exact command tag 0x31 args
  case bunker tag args => exact command tag 0x32 args
  case transfer tag args => exact command tag 0x33 args
  case coupleRelease tag args => exact command tag 0x40 args
  case coupleDetach tag args => exact command tag 0x41 args
  case coupleAttach tag args => exact command tag 0x42 args
  case pollNow tag args => exact command tag 0x43 args
  case actuatorReset tag args => exact command tag 0x50 args
  case restartCommand tag args => exact h.of_eq (State.requestRestart_station s tag)
  case unknownCommand tag code args => exact State.managed_shadowed tag h h
  case rampTimerExpiry => exact held s.rampExpiry_station
  case dwellTimerExpiry e => exact held (State.onChannel_station e _ s)
  case freshnessTimerExpiry e =>
    refine held ?_
    (repeat' split) <;> rfl
  case holdTimerExpiry e => exact held (State.onChannel_station e _ s)
  case steeringTimerExpiry => exact held s.steeringExpiry_station
  case helmTimerExpiry =>
    split
    · exact h
    · exact h
  case pollTimerExpiry => exact held s.pollExpiry_station
  case releaseTimerExpiry =>
    split
    · exact h
    · split
      · exact h
      · exact h.of_eq (State.failRelease_station _ s)
  case powerOnReset => exact h
  case warmRestart => exact held rfl
  case endOfRestart straps =>
    split
    · exact h
    · exact State.poweredOn_shadowed straps s.pending
    · exact s.warm_station straps ▸ h.restarted

end Keeping

/-- Settles O19: the step carries out the front command, and every command keeps the shadows. -/
theorem everyStepKeepsShadows : Obligations.EveryStepKeepsShadows := by
  intro s t hs hstep
  rw [State.stationsSound_iff] at hs ⊢
  unfold step at hstep
  split at hstep
  · obtain rfl := Host.Outcome.next.inj hstep
    exact hs
  · rename_i c rest _
    exact exec_shadowed c (s := { s with pending := rest }) hs hstep

end Sys2Proof.Machine
end

section
/-! PROOF. What an accepted LEVER, HELM and TAKE leave, as exact next states (R28, R29, R32 to R34, R72, R95, R139). -/

namespace Sys2Proof.Machine

/-! ### Station records and engine channels stored -/

theorem put_put {α : Type} {n : Nat} (v : Vector α n) (i : Fin n) (x y : α) : put (put v i x) i y = put v i y := by
  refine vector_ext fun j => ?_
  simp only [put_get]
  split <;> rfl

/-- The state with the engine channels replaced. -/
def State.withChannels (v : Vector (Option EngineChannel) 4) (s : State) : State :=
  { s with prop := { s.prop with channels := v } }

/-- A change of an engine's channel is a change of that entry of the channels. -/
theorem State.onChannel_eq (e : Fin 4) (f : EngineChannel → EngineChannel) (s : State) :
    s.onChannel e f = s.withChannels (put s.prop.channels e (s.prop.channels[e].map f)) := by
  unfold State.onChannel
  split
  · rename_i hnone
    rw [hnone, Option.map_none, ← hnone, put_get_id]
    rfl
  · rename_i ch hch
    rw [hch]
    rfl

/-- A channel whose lever demand has just been accepted (R72). -/
def EngineChannel.refreshed (load : Nat) (c : EngineChannel) : EngineChannel :=
  { c with fresh := .live, freshTimer := some load, holdTimer := none }

/-- The channels with those of the engines of a set refreshed (R72). -/
def refreshedChannels (load : Nat) (on : Fin 4 → Prop) [DecidablePred on] (v : Vector (Option EngineChannel) 4) :
    Vector (Option EngineChannel) 4 :=
  remap v fun e c => if on e then c.map (EngineChannel.refreshed load) else c

theorem State.leverAccepted_eq (e : Fin 4) (s : State) :
    s.leverAccepted e = s.withChannels (refreshedChannels s.params.leverTimeout (· = e) s.prop.channels) := by
  rw [State.leverAccepted, State.onChannel_eq]
  refine congrArg (State.withChannels · s) (vector_ext fun k => ?_)
  rw [put_get, refreshedChannels, remap_get]
  by_cases hk : e = k
  · subst hk
    rw [if_pos rfl, if_pos rfl]
    rfl
  · rw [if_neg hk, if_neg (Ne.symm hk)]

/-- Refreshing the channels of two sets, one of them after the other. -/
theorem refreshedChannels_or (load : Nat) (p q : Fin 4 → Prop) [DecidablePred p] [DecidablePred q]
    (v : Vector (Option EngineChannel) 4) :
    refreshedChannels load q (refreshedChannels load p v) = refreshedChannels load (fun e => p e ∨ q e) v := by
  have htwice (c : Option EngineChannel) : (c.map (EngineChannel.refreshed load)).map (EngineChannel.refreshed load) =
      c.map (EngineChannel.refreshed load) := by
    cases c <;> rfl
  refine vector_ext fun e => ?_
  simp only [refreshedChannels, remap_get]
  by_cases hp : p e <;> by_cases hq : q e <;> simp [hp, hq, htwice]

theorem refreshedChannels_congr {load : Nat} {p q : Fin 4 → Prop} [DecidablePred p] [DecidablePred q]
    (h : ∀ e, p e ↔ q e) (v : Vector (Option EngineChannel) 4) :
    refreshedChannels load p v = refreshedChannels load q v := by
  simp only [refreshedChannels, h]

theorem refreshedChannels_none {load : Nat} {p : Fin 4 → Prop} [DecidablePred p] (h : ∀ e, ¬p e)
    (v : Vector (Option EngineChannel) 4) : refreshedChannels load p v = v :=
  vector_ext fun e => by rw [refreshedChannels, remap_get, if_neg (h e)]

/-- The acceptance of a lever demand for each engine named is one change of the channels (R72). -/
theorem State.leversAccepted_eq (which : Fin 4 → Bool) (s : State) :
    s.leversAccepted which =
      s.withChannels (refreshedChannels s.params.leverTimeout (which · = true) s.prop.channels) := by
  have hfold (l : List (Fin 4)) (t : State) : l.foldl (fun s e => if which e then s.leverAccepted e else s) t =
      t.withChannels (refreshedChannels t.params.leverTimeout (fun e => e ∈ l ∧ which e = true) t.prop.channels) := by
    induction l generalizing t with
    | nil =>
      rw [refreshedChannels_none fun e he => List.not_mem_nil he.1]
      rfl
    | cons e es ih =>
      rw [List.foldl_cons, ih]
      split
      · rename_i he
        rw [State.leverAccepted_eq]
        refine congrArg (State.withChannels · t) ((refreshedChannels_or ..).trans (refreshedChannels_congr ?_ _))
        intro k
        by_cases hk : k = e <;> simp [hk, he]
      · rename_i he
        refine congrArg (State.withChannels · t) (refreshedChannels_congr ?_ _)
        intro k
        by_cases hk : k = e <;> simp [hk, he]
  rw [State.leversAccepted, hfold]
  exact congrArg (State.withChannels · s) (refreshedChannels_congr (fun e => by simp) _)

/-- The whole event of an accepted station frame: the sequence stored, the frame handled, and forwarded (R2, R7, R27). -/
theorem State.stationEvent_accepted (k : StationKind) {ch least kind : Nat} {data : List Byte}
    (handle : Fin 4 → State → State) {s : State} {i : Fin 4} (hs : s.hears .w) (hlen : least ≤ data.length)
    (hi : s.stationFor ch = some i) (hq : s.station.records[i].seq k ≠ some (seqField (byteAt data 0))) :
    s.frameEvent .w least (State.stationFrame k ch data handle) (frameOf kind ch data) =
      State.forward .w (frameOf kind ch data)
        (handle i (s.withStation i (s.station.records[i].setSeq k (seqField (byteAt data 0))))) := by
  rw [State.frameEvent_taken .w least _ _ hs hlen, State.stationFrame_accepted k ch data handle hi hq]

/-! ### LEVER (R28, R72) -/

theorem selected_iff (sel : Nat) (e : Fin 4) : selected sel e = true ↔ sel = 255 ∨ e.val = min sel 3 := by
  unfold selected
  split <;> simp [*]

/-- What a LEVER leaves: the shadows of its station, and for the command station the demands and the channels (R28). -/
theorem State.leverFrom_eq (data : List Byte) (i : Fin 4) (s : State) :
    let after (v : Vector Int 4) : Vector Int 4 :=
      leversAfter v (byteAt data 1) (clampInt (-1024) 1024 (s16At data 2))
    let records := put s.station.records i { s.station.records[i] with lever := after s.station.records[i].lever }
    s.leverFrom data i = if i = s.station.command then
      { s with station := { s.station with records := records, lever := after s.station.lever },
               prop := { s.prop with
                 channels := refreshedChannels s.params.leverTimeout (selected (byteAt data 1) · = true)
                   s.prop.channels } }
      else { s with station := { s.station with records := records } } := by
  intro after records
  unfold State.leverFrom
  simp only [State.leversAccepted_eq]
  rfl

/-- Settles O15. -/
theorem leverSetsShadowsAndDemands : Obligations.LeverSetsShadowsAndDemands := by
  intro ch data i s hs hlen hi hq pos named set r records live
  have hset (v : Vector Int 4) : leversAfter v (byteAt data 1) (clampInt (-1024) 1024 (s16At data 2)) = set v := by
    simp only [leversAfter, selected_iff]
    rfl
  have hlive : refreshedChannels s.params.leverTimeout (selected (byteAt data 1) · = true) s.prop.channels =
      remap s.prop.channels live := by
    simp only [refreshedChannels, selected_iff]
    rfl
  have hevent := State.stationEvent_accepted .lever (kind := 5) (State.leverFrom data) hs hlen hi hq
  rw [State.leverFrom_eq] at hevent
  simp only [hset, State.withStation_station, put_put, put_get_same, State.withStation_prop, State.withStation_params,
    hlive] at hevent
  exact congrArg Host.Outcome.next hevent

/-! ### HELM (R29, R95, R139) -/

/-- A condition that the slot's coupling does not lock, or that does not hold, aborts nothing (R139). -/
theorem State.checkLock_free {c : Interlock} {s : State}
    (h : ∀ k, s.coup.slot = some k → (s.couplingEntry k).hasLock c = true → s.lockHolds k c = false) :
    s.checkLock c = s := by
  rcases State.checkLock_cases c s with heq | ⟨k, hk, hlock, hholds, -⟩
  · exact heq
  · exact absurd (h k hk hlock) (by simp [hholds])

/-- A condition of the slot's coupling that holds aborts the release (R139). -/
theorem State.checkLock_abort {c : Interlock} {k : Fin 48} {s : State} (hk : s.coup.slot = some k)
    (hlock : (s.couplingEntry k).hasLock c = true) (hholds : s.lockHolds k c = true) :
    s.checkLock c = s.abortRelease k := by
  simp [State.checkLock, hk, hlock, hholds]

/-- Settles O16. -/
theorem helmSetsShadowAndDemand : Obligations.HelmSetsShadowAndDemand := by
  intro ch data i s hs hlen hi hq v records t
  have hevent : exec (.helm ch data) s = .next (State.forward .w (frameOf 6 ch.toNat data)
      (if i = s.station.command then t.checkLock .helmOffCentre
        else { s with station := { s.station with records := records } })) := by
    have h := State.stationEvent_accepted .helm (kind := 6) (State.helmFrom data) hs hlen hi hq
    unfold State.helmFrom at h
    simp only [State.withStation, put_put, put_get_same] at h
    exact congrArg Host.Outcome.next h
  rw [hevent]
  refine ⟨fun hother => ?_, fun hcommand hfree => ?_, fun k hcommand hk hlock hoff => ?_⟩
  · rw [if_neg hother]
  · rw [if_pos hcommand, State.checkLock_free fun k hk hlock => ?_]
    exact decide_eq_false (Nat.not_lt.mpr (hfree k hk hlock))
  · rw [if_pos hcommand, State.checkLock_abort (s := t) hk hlock (decide_eq_true hoff)]

/-! ### TAKE (R32 to R34) -/

/-- The match test reads the two stations' shadows (R33). -/
theorem State.takeMatches_iff (s : State) (i : Fin 4) :
    s.takeMatches i = true ↔
      (∀ e : Fin 4, s.engineEnabled e = true → (s.station.records[i].lever[e] -
        s.station.records[s.station.command].lever[e]).natAbs ≤ s.params.matchWindow) ∧
      (s.station.records[i].helm - s.station.records[s.station.command].helm).natAbs ≤ 2 * s.params.centreWindow := by
  simp only [State.takeMatches, Bool.and_eq_true, List.all_eq_true, List.mem_finRange, true_imp_iff, Bool.or_eq_true,
    Bool.not_eq_true', ← Bool.not_eq_true, ← imp_iff_not_or, decide_eq_true_eq]

/-- A TAKE is granted to another station while the slot is EMPTY, forced from station 0 or matching (R32). -/
theorem State.takeFrom_eq (data : List Byte) (i : Fin 4) (s : State) :
    s.takeFrom data i = if i ≠ s.station.command ∧ s.coup.slot = none ∧
      (i = 0 ∧ byteAt data 1 ≠ 0 ∨ s.takeMatches i = true) then s.grantTake i else s := by
  have hforce : min (byteAt data 1) 1 = 1 ↔ byteAt data 1 ≠ 0 := by omega
  unfold State.takeFrom
  by_cases hc : i = s.station.command
  · simp [hc]
  · cases hslot : s.coup.slot with
    | some k => simp [hc]
    | none =>
      by_cases hf : i = 0 ∧ byteAt data 1 ≠ 0 <;> simp [hc, hforce, hf]

/-- What a grant leaves (R34, R72, R95). -/
theorem State.grantTake_eq (i : Fin 4) (s : State) :
    s.grantTake i = State.raise .stationTransfer i.val { s with
      station := { s.station with command := i, lever := s.station.records[i].lever, helm := s.station.records[i].helm }
      prop := { s.prop with
        channels := remap s.prop.channels fun _ c => c.map (EngineChannel.refreshed s.params.leverTimeout) }
      steer := { s.steer with helmFresh := .live, helmTimer := some s.params.helmTimeout } } := by
  unfold State.grantTake
  simp only [State.leversAccepted_eq]
  rfl

/-- Settles O17. -/
theorem takeMovesCommand : Obligations.TakeMovesCommand := by
  intro ch data i s hs hlen hi hq r c stored matching granted t
  have hrecord : stored.station.records[i] = { r with seqTake := some (min (byteAt data 0) 15) } := put_get_same _ i _
  have hevent : exec (.take ch data) s = .next (State.forward .w (frameOf 10 ch.toNat data) (stored.takeFrom data i)) :=
    congrArg Host.Outcome.next
      (State.stationEvent_accepted .take (kind := 10) (State.takeFrom data) hs hlen hi hq)
  have hmatch (hc : i ≠ s.station.command) : stored.takeMatches i = true ↔ matching := by
    have hcommand : stored.station.records[stored.station.command] = c := put_get_other _ hc _
    rw [State.takeMatches_iff, hrecord, hcommand]
    rfl
  have hgranted : (i ≠ stored.station.command ∧ stored.coup.slot = none ∧
      (i = 0 ∧ byteAt data 1 ≠ 0 ∨ stored.takeMatches i = true)) ↔ granted :=
    and_congr_right fun hc => and_congr_right fun _ => or_congr_right (hmatch hc)
  have hgrant : stored.grantTake i = t.raise .stationTransfer i.val := by
    rw [State.grantTake_eq, hrecord]
    rfl
  rw [hevent, State.takeFrom_eq]
  exact ⟨fun h => by rw [if_pos (hgranted.mpr h), hgrant], fun h => by rw [if_neg (mt hgranted.mp h)]⟩

end Sys2Proof.Machine
end

section
/-! PROOF. What the reading units do when a table becomes READY (R37, R64, R105, R130, R162, R175). -/

namespace Sys2Proof.Machine

/-- A channel comes into being in DWELL, or in NEUTRAL when the dwell is 0 (R64, R69). -/
theorem newChannel_eq (idle load : Nat) : newChannel idle load =
    { gear := if load = 0 then .neutral else .dwell, engaged := .neutral,
      dwellTimer := if load = 0 then none else some load, fresh := .idled, freshTimer := none, holdTimer := none,
      repRpm := 0, repGear := .neutral, reported := false, trim := 0, c := idle, a := 0, ramp := .none, lastRaw := idle,
      lastTarget := idle, lastCap := idle, lastOutput := idle, lastD := 0, lastDir := .neutral, lastDetent := 1,
      fuelCap := false } := by
  unfold newChannel EngineChannel.enterDwell
  split <;> rfl

/-! ### Tanks (R175) -/

/-- The record of a tank that has come into being and been evaluated for reserve (R170, R175). -/
def State.loadedTank (s : State) (t : Fin 8) : TankRecord :=
  { newTank (s.tankEntry t).loaded with reserve := s.inReserve t ((s.tankEntry t).loaded * 1000) }

/-- A tank of the READY TANK table that comes into being in reserve (R170, R175). -/
def State.loadsLow (s : State) (t : Fin 8) : Bool :=
  s.reaches .tank t.val && s.inReserve t ((s.tankEntry t).loaded * 1000)

/-- The state with the tank records replaced. -/
def State.withTanks (v : Vector (Option TankRecord) 8) (s : State) : State :=
  { s with fuel := { s.fuel with tanks := v } }

/-- The first evaluation of a tank stores its record, and raises TANK_RESERVE when it is in reserve (R170). -/
theorem State.evaluated_newTank (t : Fin 8) (s : State) :
    s.evaluated t (newTank (s.tankEntry t).loaded) =
      if s.inReserve t ((s.tankEntry t).loaded * 1000) then
        (s.withTanks (put s.fuel.tanks t (some (s.loadedTank t)))).raise .tankReserve t.val
      else s.withTanks (put s.fuel.tanks t (some (s.loadedTank t))) := by
  simp only [State.evaluated, newTank, Bool.not_false, Bool.and_true]
  rfl

/-- The tank records with those of a list of reached tanks loaded (R175). -/
def State.loadedTanks (s : State) (l : List (Fin 8)) (v : Vector (Option TankRecord) 8) : Vector (Option TankRecord) 8 :=
  remap v fun t r => if t ∈ l ∧ s.reaches .tank t.val = true then some (s.loadedTank t) else r

theorem State.loadedTanks_nil (s : State) (v : Vector (Option TankRecord) 8) : s.loadedTanks [] v = v :=
  vector_ext fun t => by simp [State.loadedTanks]

theorem State.loadedTanks_put {s : State} {t : Fin 8} (h : s.reaches .tank t.val = true) (ts : List (Fin 8))
    (v : Vector (Option TankRecord) 8) :
    s.loadedTanks ts (put v t (some (s.loadedTank t))) = s.loadedTanks (t :: ts) v := by
  refine vector_ext fun k => ?_
  simp only [State.loadedTanks, remap_get, put_get]
  by_cases hk : t = k
  · subst hk
    simp [h]
  · simp [hk, Ne.symm hk]

theorem State.loadedTanks_unreached {s : State} {t : Fin 8} (h : ¬s.reaches .tank t.val = true) (ts : List (Fin 8))
    (v : Vector (Option TankRecord) 8) : s.loadedTanks ts v = s.loadedTanks (t :: ts) v := by
  refine vector_ext fun k => ?_
  simp only [State.loadedTanks, remap_get]
  by_cases hk : k = t
  · subst hk
    simp [h]
  · simp [hk]

/-- Tanks that come into being one after the other: their records are stored, and TANK_RESERVE is raised for those in
reserve, in the same order (R175). -/
theorem State.foldl_evaluated (l : List (Fin 8)) (s : State) :
    l.foldl (fun s t => if s.reaches .tank t.val then s.evaluated t (newTank (s.tankEntry t).loaded) else s) s =
      (l.filter s.loadsLow).foldl (fun s t => s.raise .tankReserve t.val)
        (s.withTanks (s.loadedTanks l s.fuel.tanks)) := by
  induction l generalizing s with
  | nil =>
    rw [State.loadedTanks_nil]
    rfl
  | cons t ts ih =>
    rw [List.foldl_cons, ih]
    by_cases hr : s.reaches .tank t.val = true
    · rw [if_pos hr, State.evaluated_newTank, ← State.loadedTanks_put hr]
      split
      · rename_i hlow
        rw [List.filter_cons_of_pos (by simp [State.loadsLow, hr, hlow])]
        rfl
      · rename_i hlow
        rw [List.filter_cons_of_neg (by simp [State.loadsLow, hlow])]
        rfl
    · rw [if_neg hr, ← State.loadedTanks_unreached hr, List.filter_cons_of_neg (by simp [State.loadsLow, hr])]

/-- A READY TANK table loads every tank within its count (R175). -/
theorem State.createTanks_eq (s : State) :
    s.createTanks = ((List.finRange 8).filter s.loadsLow).foldl (fun s t => s.raise .tankReserve t.val)
      (s.withTanks (Vector.ofFn fun t => if s.reaches .tank t.val then some (s.loadedTank t) else none)) := by
  have hall : s.loadedTanks (List.finRange 8) (Vector.ofFn s.tankAtLoad) =
      Vector.ofFn fun t => if s.reaches .tank t.val then some (s.loadedTank t) else none := by
    refine vector_ext fun t => ?_
    by_cases hr : s.reaches .tank t.val = true <;> simp [State.loadedTanks, State.tankAtLoad, hr]
  rw [State.createTanks, State.foldl_evaluated, ← hall]
  rfl

/-- Settles O39: what each reading unit's operation stores, field by field. -/
theorem readyTableBringsUnits : Obligations.ReadyTableBringsUnits := by
  intro s zeros stations dwell engine engines actuator actuators coupling couplings low tank tanks meters
  have hengines : (Vector.ofFn fun e : Fin 4 =>
      if s.engineEnabled e then some (newChannel (s.engineEntry e).idle s.params.reversalDwell) else none) = engines := by
    simp only [newChannel_eq]
    rfl
  refine ⟨rfl, ?_, rfl, rfl, rfl, rfl, ?_, rfl⟩
  · rw [← hengines]
    rfl
  · exact s.createTanks_eq

end Sys2Proof.Machine
end

section
/-! PROOF. The entries in use (R25, R45) and stages 2 to 6 of the setpoint computation (R47 to R57). -/

namespace Sys2Proof.Machine

/-! ### Entries in use -/

theorem index?_eq_some {n k : Nat} {i : Fin n} : index? n k = some i ↔ k = i.val := by
  unfold index?
  split
  · simp [Fin.ext_iff]
  · simp only [reduceCtorEq, false_iff]
    omega

theorem State.reaches_iff (s : State) (t : TableId) (i : Nat) :
    s.reaches t i = true ↔ (s.table t).state = .ready ∧ i < (s.table t).count := by
  simp [State.reaches, State.ready]

/-- An engine is enabled by the words of its entry in a READY table (R41). -/
theorem State.engineEnabled_iff (s : State) (e : Fin 4) :
    s.engineEnabled e = true ↔ (s.table .engine).state = .ready ∧ e.val < (s.table .engine).count ∧
      s.entryWord .engine e.val 0 ≠ 0 := by
  simp [State.engineEnabled, State.reaches_iff, and_assoc]

/-! ### Stage 3: the raw value (R48, R49) -/

theorem State.curveAvailable_iff (s : State) (c : Nat) :
    s.curveAvailable c = true ↔ s.ready .curve = true ∧ 17 * (c + 1) ≤ (s.table .curve).count := by
  simp [State.curveAvailable]

/-- Below 1024 a curve is read between two of its points, and at 1024 at its last (R49). -/
theorem State.curveRaw_eq (s : State) (c m : Nat) :
    s.curveRaw c m = if m < 1024 then s.curvePoint c (m / 64) +
      (s.curvePoint c (m / 64 + 1) - s.curvePoint c (m / 64)) * (m % 64) / 64 else s.curvePoint c 16 := by
  unfold State.curveRaw
  by_cases h : m < 1024
  · rw [if_pos h, if_neg (by omega)]
  · rw [if_neg h, if_pos (by omega)]

/-! ### Stage 4: the cap (R51 to R53) -/

/-- The percentages of the levels, each at most those of the levels below (R51). -/
theorem Params.deratePct_eq (p : Params) (level : Nat) :
    p.deratePct level = if level = 0 then 100 else if level = 1 then min p.deratePct1 100
      else if level = 2 then min p.deratePct2 (min p.deratePct1 100)
      else min p.deratePct3 (min p.deratePct2 (min p.deratePct1 100)) := by
  match level with
  | 0 | 1 | 2 => rfl
  | n + 3 => simp [Params.deratePct]

/-- The maximum that a channel's gear state puts on it, when there is one (R53). -/
def EngineChannel.capMax (x : EngineEntry) (c : EngineChannel) : Option Nat :=
  match c.gear, c.engaged with
  | .ahead, _ => some x.aheadMax
  | .astern, _ => some x.asternMax
  | .slowing, .ahead => some x.aheadMax
  | .slowing, .astern => some x.asternMax
  | _, _ => none

/-- The cap is that of the gear state's maximum (R53). -/
theorem State.capFor_eq (s : State) (e : Fin 4) (level : Nat) (c : EngineChannel) :
    s.capFor e level c = (c.capMax (s.engineEntry e)).map fun top =>
      capOf (s.engineEntry e).idle top (s.params.deratePct level) s.params.reservePct (s.fuelCapOn e) := by
  unfold State.capFor EngineChannel.capMax
  cases c.gear with
  | slowing => cases c.engaged <;> rfl
  | _ => rfl

/-! ### Stages 2 to 6 -/

/-- Stages 2 to 6 by the values of their parts: whether the gear runs, the raw value, the cap, the target and the
position the stepping starts from. -/
theorem State.setpoint_of_parts {s : State} {e : Fin 4} {level elapsed : Nat} {lever : Int} {dir : Direction}
    {c : EngineChannel} {running : Prop} [Decidable running] {raw cap target : Nat} {start : Ramped}
    (hrunning : (c.gear = .ahead ∨ c.gear = .astern) = running)
    (hraw : raw = if running then s.rawValue
      (if c.gear = .astern then (s.engineEntry e).asternCurve else (s.engineEntry e).aheadCurve)
      (quantized s.detentInUse lever) c.lastRaw else c.lastRaw)
    (hcap : (s.capFor e level c).getD (s.engineEntry e).idle = cap)
    (htarget : target = if running then max (s.engineEntry e).idle (min raw cap) else (s.engineEntry e).idle)
    (hstart : start =
      if cap < c.c then { pos := cap, rem := 0, dir := c.ramp } else { pos := c.c, rem := c.a, dir := c.ramp }) :
    let n := rampStep target (s.engineEntry e).upRate (s.engineEntry e).downRate elapsed start
    s.setpoint e level elapsed lever dir c = { c with
      c := n.pos.toNat, a := n.rem, ramp := n.dir, lastRaw := raw, lastTarget := target, lastCap := cap,
      lastD := level, lastDir := dir, lastDetent := if running then s.detentInUse else 1,
      fuelCap := (s.capFor e level c).isSome && s.fuelCapOn e } := by
  subst hrunning hcap
  have hcut : start = {
      pos := if decide ((s.capFor e level c).getD (s.engineEntry e).idle < c.c) = true
        then ((s.capFor e level c).getD (s.engineEntry e).idle : Int) else c.c
      rem := if decide ((s.capFor e level c).getD (s.engineEntry e).idle < c.c) = true then 0 else c.a
      dir := c.ramp } := by
    rw [hstart]
    split <;> simp [*]
  intro n
  simp only [State.setpoint, n, htarget, hraw, hcut, decide_eq_true_eq]

/-- The fuel cap is the reserve share while the feed tank's record is in reserve (R52). -/
theorem State.fuelCapOn_eq (s : State) (e : Fin 4) :
    s.fuelCapOn e = match (s.engineEntry e).feedTank with
      | some k => s.reaches .tank k.val && ((s.fuel.tanks[k]).map fun r => r.reserve).getD false
      | none => false := by
  unfold State.fuelCapOn
  split
  · rename_i hfeed
    rw [hfeed]
  · rename_i k hfeed
    rw [hfeed]
    cases hk : s.fuel.tanks[k] <;> simp [hk]

/-- Settles O51. -/
theorem setpointStagesCompute : Obligations.SetpointStagesCompute := by
  refine ⟨fun e s => ?_, fun i s => ?_, ?_⟩
  · exact ⟨rfl, rfl, rfl, rfl, rfl, rfl, rfl, rfl, rfl, rfl, fun t => index?_eq_some, s.engineEnabled_iff e⟩
  · exact if_congr (s.reaches_iff .station i.val) rfl rfl
  · intro e level elapsed lever dir c s x running detent m curve point available raw top p pct reserve cap target start n
    have htop : c.capMax x = top := rfl
    have hfuel : s.fuelCapOn e = reserve := s.fuelCapOn_eq e
    have hcapFor : s.capFor e level c = top.map fun v => capOf x.idle v pct p.reservePct reserve := by
      rw [State.capFor_eq, htop, hfuel, Params.deratePct_eq]
    have hcap : (s.capFor e level c).getD x.idle = cap := by
      rw [hcapFor]
      dsimp only [cap]
      cases top <;> rfl
    have hraw : raw = if running then s.rawValue curve (quantized s.detentInUse lever) c.lastRaw else c.lastRaw := by
      have hcurve : s.rawValue curve m c.lastRaw = if available then
          (if m < 1024 then point (m / 64) + (point (m / 64 + 1) - point (m / 64)) * (m % 64) / 64 else point 16)
          else c.lastRaw := by
        rw [State.rawValue, State.curveRaw_eq]
        exact if_congr (s.curveAvailable_iff curve) rfl rfl
      exact (ite_and ..).trans (if_congr Iff.rfl hcurve.symm rfl)
    have hsome : (s.capFor e level c).isSome = top.isSome := by rw [hcapFor, Option.isSome_map]
    have hparts := State.setpoint_of_parts (elapsed := elapsed) (dir := dir) (running := running) (target := target)
      (start := start) rfl hraw hcap rfl rfl
    rw [hsome, hfuel] at hparts
    exact hparts

end Sys2Proof.Machine
end

section
/-! PROOF. The carried-remainder stepping (R55, R56, R92): its cases and its bounds. -/

namespace Sys2Proof.Machine

/-- What one stepping accumulates toward a target: the remainder kept from a stepping of the same direction, and rate times
interval (R55). -/
def Ramped.accumulated (target : Int) (up down elapsed : Nat) (r : Ramped) : Nat :=
  (if (if r.pos < target then RampDir.rising else RampDir.falling) = r.dir then r.rem else 0) +
    (if r.pos < target then up else down) * elapsed

section Stepping

variable {target : Int} {up down elapsed : Nat} {r : Ramped}

theorem rampStep_eq : rampStep target up down elapsed r =
    if target = r.pos then { pos := r.pos, rem := 0, dir := .none }
    else if (target - r.pos).natAbs ≤ r.accumulated target up down elapsed / 1000 then
      { pos := target, rem := 0, dir := .none }
    else {
      pos := if r.pos < target then r.pos + (r.accumulated target up down elapsed / 1000 : Nat)
        else r.pos - (r.accumulated target up down elapsed / 1000 : Nat)
      rem := r.accumulated target up down elapsed % 1000
      dir := if r.pos < target then .rising else .falling } := rfl

/-- A gap within the step, or none, arrives exactly (R55, R56). -/
theorem rampStep_arrives (h : (target - r.pos).natAbs ≤ r.accumulated target up down elapsed / 1000) :
    rampStep target up down elapsed r = { pos := target, rem := 0, dir := .none } := by
  by_cases heq : target = r.pos
  · rw [rampStep_eq, if_pos heq, heq]
  · rw [rampStep_eq, if_neg heq, if_pos h]

/-- A target further up than the step is approached by the step, and the remainder is carried (R55). -/
theorem rampStep_rises (h : (r.accumulated target up down elapsed / 1000 : Nat) < target - r.pos) :
    rampStep target up down elapsed r = {
      pos := r.pos + (r.accumulated target up down elapsed / 1000 : Nat)
      rem := r.accumulated target up down elapsed % 1000
      dir := .rising } := by
  have hup : r.pos < target := by omega
  rw [rampStep_eq, if_neg (by omega), if_neg (by omega), if_pos hup, if_pos hup]

/-- A target further down than the step is approached by the step, and the remainder is carried (R55). -/
theorem rampStep_falls (h : (r.accumulated target up down elapsed / 1000 : Nat) < r.pos - target) :
    rampStep target up down elapsed r = {
      pos := r.pos - (r.accumulated target up down elapsed / 1000 : Nat)
      rem := r.accumulated target up down elapsed % 1000
      dir := .falling } := by
  have hdown : ¬r.pos < target := by omega
  rw [rampStep_eq, if_neg (by omega), if_neg (by omega), if_neg hdown, if_neg hdown]

/-- One stepping arrives, rises or falls. -/
theorem rampStep_cases (target : Int) (up down elapsed : Nat) (r : Ramped) :
    (target - r.pos).natAbs ≤ r.accumulated target up down elapsed / 1000 ∨
    (r.accumulated target up down elapsed / 1000 : Nat) < target - r.pos ∨
    (r.accumulated target up down elapsed / 1000 : Nat) < r.pos - target := by
  omega

/-- A stepping never passes its target and never moves away from it. -/
theorem rampStep_between (target : Int) (up down elapsed : Nat) (r : Ramped) :
    let n := rampStep target up down elapsed r
    r.pos ≤ n.pos ∧ n.pos ≤ target ∨ target ≤ n.pos ∧ n.pos ≤ r.pos := by
  rcases rampStep_cases target up down elapsed r with h | h | h
  · simp only [rampStep_arrives h]
    omega
  · simp only [rampStep_rises h]
    omega
  · simp only [rampStep_falls h]
    omega

/-- A stepping stays within bounds that hold of its start and its target. -/
theorem rampStep_within {lo hi : Int} (hstart : lo ≤ r.pos ∧ r.pos ≤ hi) (htarget : lo ≤ target ∧ target ≤ hi) :
    lo ≤ (rampStep target up down elapsed r).pos ∧ (rampStep target up down elapsed r).pos ≤ hi := by
  have h := rampStep_between target up down elapsed r
  dsimp only at h
  omega

/-- The remainder carried is below 1000 (R44, R55). -/
theorem rampStep_rem_le (target : Int) (up down elapsed : Nat) (r : Ramped) :
    (rampStep target up down elapsed r).rem ≤ 999 := by
  rcases rampStep_cases target up down elapsed r with h | h | h
  · simp only [rampStep_arrives h, Nat.zero_le]
  · simp only [rampStep_rises h]
    omega
  · simp only [rampStep_falls h]
    omega

end Stepping

/-- Settles O50. -/
theorem steppingCarriesItsRemainder : Obligations.SteppingCarriesItsRemainder := by
  intro target up down elapsed r n rate dir acc
  exact ⟨fun heq => rampStep_arrives (by simp [heq]), fun _ => rampStep_arrives, fun _ => rampStep_rises,
    fun _ => rampStep_falls, rampStep_between target up down elapsed r⟩

end Sys2Proof.Machine
end

section
/-! PROOF. One update of the propulsion unit and of the FLANKING targets, and the abort of a release that does not meet it (R71,
R90, R139, R140). -/

namespace Sys2Proof.Machine

/-! ### One update of the propulsion unit and of FLANKING targets -/

/-- An actuator record, its target at 0 when it is to be zeroed (R90). -/
def Actuator.zeroedIf (on : Bool) (a : Actuator) : Actuator := if on then { a with target := 0 } else a

theorem Actuator.zeroedIf_zeroedIf (on off : Bool) (a : Actuator) :
    (a.zeroedIf on).zeroedIf off = a.zeroedIf (on || off) := by
  cases on <;> cases off <;> rfl

/-- The state with another propulsion unit and the targets of a set of actuators at 0. -/
def State.withDrive (p : PropulsionUnit) (on : Fin 8 → Bool) (s : State) : State :=
  { s with prop := p, steer := { s.steer with
      actuators := remap s.steer.actuators fun j a => a.map (Actuator.zeroedIf (on j)) } }

theorem State.withDrive_withDrive (p q : PropulsionUnit) (on off : Fin 8 → Bool) (s : State) :
    (s.withDrive p on).withDrive q off = s.withDrive q fun j => on j || off j := by
  have htwice : remap (s.withDrive p on).steer.actuators (fun j a => a.map (Actuator.zeroedIf (off j))) =
      remap s.steer.actuators fun j a => a.map (Actuator.zeroedIf (on j || off j)) := by
    refine vector_ext fun j => ?_
    simp only [State.withDrive, remap_get, Option.map_map]
    exact congrArg (Option.map · _) (funext (Actuator.zeroedIf_zeroedIf _ _))
  rw [State.withDrive, htwice]
  rfl

theorem State.withDrive_none (p : PropulsionUnit) (s : State) : s.withDrive p (fun _ => false) = { s with prop := p } := by
  have hsame : remap s.steer.actuators (fun _ a => a.map (Actuator.zeroedIf false)) = s.steer.actuators := by
    refine vector_ext fun j => ?_
    rw [remap_get]
    exact Option.map_id'
  rw [State.withDrive, hsame]

theorem State.actuatorEntry_of_mgmt {s t : State} (h : t.mgmt = s.mgmt) (j : Fin 8) :
    t.actuatorEntry j = s.actuatorEntry j := by
  refine State.actuatorEntry_congr ?_ j
  unfold State.entryWord State.table
  rw [h]

/-! ### The release controller and the supervisor read neither (R123, R140) -/

section Commuting

variable (p : PropulsionUnit) (on : Fin 8 → Bool) (s : State)

theorem State.classified_withDrive (i : Fin 48) (r : CouplingRecord) :
    (s.withDrive p on).classified i r = (s.classified i r).withDrive p on := by
  unfold State.classified
  dsimp only
  rw [apply_ite (State.withDrive p on)]
  rfl

theorem State.classifyLast_withDrive (i : Fin 48) :
    (s.withDrive p on).classifyLast i = (s.classifyLast i).withDrive p on := by
  have hcoup : (s.withDrive p on).coup = s.coup := rfl
  unfold State.classifyLast
  rw [hcoup]
  split
  · rfl
  · rw [apply_ite (State.withDrive p on), State.classified_withDrive]
    rfl

theorem State.applyDerate_withDrive : (s.withDrive p on).applyDerate = s.applyDerate.withDrive p on := by
  unfold State.applyDerate
  rw [apply_ite (State.withDrive p on), apply_ite (State.withDrive p on)]
  rfl

/-- Bringing a BOW actuator in step touches no FLANKING one (R90, R102). -/
theorem State.gateActuator_withDrive (j : Fin 8) (hon : on j = true → (s.actuatorEntry j).kind = .flanking) :
    (s.withDrive p on).gateActuator j = (s.gateActuator j).withDrive p on := by
  have hentry : (s.withDrive p on).actuatorEntry j = s.actuatorEntry j := rfl
  have hmade : (s.withDrive p on).bowMade j = s.bowMade j := rfl
  have hold : (s.withDrive p on).steer.actuators[j] = (s.steer.actuators[j]).map (Actuator.zeroedIf (on j)) :=
    remap_get _ _ j
  unfold State.gateActuator
  rw [hold, hentry, hmade]
  cases ha : s.steer.actuators[j] with
  | none => rfl
  | some a =>
    dsimp only [Option.map_some]
    by_cases hkind : (s.actuatorEntry j).kind = .bow
    · have hoff : on j = false := by
        by_contra h
        rw [hon (by simpa using h)] at hkind
        exact absurd hkind (by decide)
      have hstored (x : Actuator) : (s.withDrive p on).withActuator j x = (s.withActuator j x).withDrive p on := by
        have hput : put (s.withDrive p on).steer.actuators j (some x) =
            remap (s.withActuator j x).steer.actuators fun j a => a.map (Actuator.zeroedIf (on j)) := by
          refine vector_ext fun k => ?_
          rw [remap_get, put_get]
          show _ = Option.map _ (put s.steer.actuators j (some x))[k]
          rw [put_get]
          split
          · rename_i hk
            subst hk
            rw [hoff]
            rfl
          · exact remap_get _ _ k
        rw [State.withActuator, hput]
        rfl
      rw [hoff]
      simp only [apply_ite (State.withDrive p on), Actuator.zeroedIf, hstored]
      rfl
    · rw [if_pos hkind, if_pos hkind]

theorem State.tellSteering_withDrive (hon : ∀ j, on j = true → (s.actuatorEntry j).kind = .flanking) :
    (s.withDrive p on).tellSteering = s.tellSteering.withDrive p on := by
  unfold State.tellSteering
  induction List.finRange 8 generalizing s with
  | nil => rfl
  | cons j js ih =>
    rw [List.foldl_cons, List.foldl_cons, State.gateActuator_withDrive p on s j (hon j)]
    refine ih _ fun k hk => ?_
    rw [State.actuatorEntry_of_mgmt (State.gateActuator_mgmt j s)]
    exact hon k hk

theorem State.abortRelease_withDrive (i : Fin 48) (hon : ∀ j, on j = true → (s.actuatorEntry j).kind = .flanking) :
    (s.withDrive p on).abortRelease i = (s.abortRelease i).withDrive p on := by
  have hheld : ((s.withDrive p on).offerUrgent .t ((s.withDrive p on).coupleCmd i cmdHold)).stopRelease =
      ((s.offerUrgent .t (s.coupleCmd i cmdHold)).stopRelease).withDrive p on := rfl
  have hempty (t : State) : (t.withDrive p on).emptySlot = t.emptySlot.withDrive p on := rfl
  have hraise (t : State) : (t.withDrive p on).raise .releaseAborted i.val =
      (t.raise .releaseAborted i.val).withDrive p on := rfl
  unfold State.abortRelease State.afterChange
  rw [hheld, State.classifyLast_withDrive, hempty, State.applyDerate_withDrive, State.tellSteering_withDrive, hraise]
  intro j hj
  rw [State.actuatorEntry_of_mgmt (s := s) (by simp)]
  exact hon j hj

/-! ### The release controller told that a channel has moved into gear (R71, R139) -/

/-- The release in the slot is aborted when a channel has moved into gear and its coupling locks ENGINES_ENGAGED (R71,
R139). -/
def State.tellEngaged (engages : Bool) (s : State) : State :=
  match s.coup.slot with
  | none => s
  | some i => if (s.couplingEntry i).hasLock .enginesEngaged && engages then s.abortRelease i else s

theorem State.checkLock_enginesEngaged : s.checkLock .enginesEngaged = s.tellEngaged s.enginesEngaged := rfl

theorem State.tellEngaged_false : s.tellEngaged false = s := by
  unfold State.tellEngaged
  split <;> simp

theorem State.tellEngaged_cases (b : Bool) : s.tellEngaged b = s ∨ ∃ i, s.tellEngaged b = s.abortRelease i := by
  unfold State.tellEngaged
  split
  · exact .inl rfl
  · split
    · exact .inr ⟨_, rfl⟩
    · exact .inl rfl

theorem State.tellEngaged_withDrive (b : Bool) (hon : ∀ j, on j = true → (s.actuatorEntry j).kind = .flanking) :
    (s.withDrive p on).tellEngaged b = (s.tellEngaged b).withDrive p on := by
  have hcoup : (s.withDrive p on).coup = s.coup := rfl
  unfold State.tellEngaged
  rw [hcoup]
  split
  · rfl
  · rw [apply_ite (State.withDrive p on), State.abortRelease_withDrive p on s _ hon]
    rfl

theorem State.applyDerate_slot : s.applyDerate.coup.slot = s.coup.slot := by
  unfold State.applyDerate
  (repeat' split) <;> simp

theorem State.abortRelease_slot (i : Fin 48) : (s.abortRelease i).coup.slot = none := by
  rw [State.abortRelease, State.raise_coup, State.afterChange, State.tellSteering_coup, State.applyDerate_slot]
  rfl

/-- A second telling finds the slot EMPTY when the first has aborted the release. -/
theorem State.tellEngaged_tellEngaged (a b : Bool) : (s.tellEngaged a).tellEngaged b = s.tellEngaged (a || b) := by
  have hempty (t : State) (h : t.coup.slot = none) : t.tellEngaged b = t := by rw [State.tellEngaged, h]
  cases a with
  | false => rw [State.tellEngaged_false, Bool.false_or]
  | true =>
    rcases hslot : s.coup.slot with - | i
    · simp only [State.tellEngaged, hslot]
    · by_cases hlock : (s.couplingEntry i).hasLock .enginesEngaged = true
      · simp only [State.tellEngaged, hslot, hlock, Bool.true_or, Bool.and_true, if_true, State.abortRelease_slot]
      · simp only [State.tellEngaged, hslot, hlock, Bool.true_or, Bool.false_and, Bool.false_eq_true, if_false]

end Commuting

end Sys2Proof.Machine
end

section
/-! PROOF. Pass 1 of a ramp-timer expiry: what the computation of a channel reads, and the channels of all engines as one update
with the release controller told once (R42, R46, R65 to R71, R90, R139; log entry 8). -/

namespace Sys2Proof.Machine

/-! ### What the computation of a channel reads (R45, R46) -/

/-- Two states that the setpoint computation cannot tell apart: tables, parameters, stations and tanks are the same. -/
structure State.SameInputs (s t : State) : Prop where
  mgmt : t.mgmt = s.mgmt
  params : t.params = s.params
  station : t.station = s.station
  fuel : t.fuel = s.fuel

section Reading

variable {s t : State}

theorem State.engineEntry_of_mgmt (h : t.mgmt = s.mgmt) (e : Fin 4) : t.engineEntry e = s.engineEntry e := by
  unfold State.engineEntry State.entryWord State.table
  rw [h]

theorem State.setpoint_of_inputs (h : s.SameInputs t) : t.setpoint = s.setpoint := by
  obtain ⟨hmgmt, hparams, hstation, hfuel⟩ := h
  cases s
  cases t
  dsimp only at hmgmt hparams hstation hfuel
  subst hmgmt hparams hstation hfuel
  rfl

end Reading

/-- The direction an engine's lever demands of its channel (R46). -/
def State.demanded (s : State) (e : Fin 4) (c : EngineChannel) : Direction :=
  demandedDir (s.engineEntry e).deadband (c.leverUsed s.station.lever[e])

/-- A channel after the gear step (R65 to R68). -/
def State.geared (s : State) (e : Fin 4) (c : EngineChannel) : EngineChannel :=
  c.gearStep (s.engineEntry e).idle s.params.reversalDwell (s.demanded e c)

/-- A channel after pass 1 (R46 to R57). -/
def State.advanced (s : State) (level elapsed : Nat) (e : Fin 4) (c : EngineChannel) : EngineChannel :=
  s.setpoint e level elapsed (c.leverUsed s.station.lever[e]) (s.demanded e c) (s.geared e c)

/-- An engine's channel leaves ASTERN in the gear step (R90). -/
def State.leavesAstern (s : State) (e : Fin 4) : Bool :=
  (s.prop.channels[e]).any fun c => decide (c.gear = .astern ∧ (s.geared e c).gear ≠ .astern)

/-- An engine's channel moves into gear in the gear step (R71). -/
def State.movesIntoGear (s : State) (e : Fin 4) : Bool :=
  (s.prop.channels[e]).any fun c => decide ((s.geared e c).gear ≠ c.gear ∧ (s.geared e c).gear.inGear = true)

/-- The FLANKING actuators of a set of engines (R90). -/
def State.flanking (s : State) (on : Fin 4 → Bool) (j : Fin 8) : Bool :=
  decide ((s.actuatorEntry j).kind = .flanking) && on (s.actuatorEntry j).engine

section Reading

variable {s t : State}

theorem State.geared_of_inputs (h : s.SameInputs t) : t.geared = s.geared := by
  funext e c
  simp only [State.geared, State.demanded, State.engineEntry_of_mgmt h.mgmt, h.params, h.station]

theorem State.advanced_of_inputs (h : s.SameInputs t) : t.advanced = s.advanced := by
  funext level elapsed e c
  simp only [State.advanced, State.geared_of_inputs h, State.demanded, State.setpoint_of_inputs h,
    State.engineEntry_of_mgmt h.mgmt, h.station]

theorem State.leavesAstern_of_inputs (h : s.SameInputs t) {e : Fin 4}
    (hc : t.prop.channels[e] = s.prop.channels[e]) : t.leavesAstern e = s.leavesAstern e := by
  rw [State.leavesAstern, State.geared_of_inputs h, hc, State.leavesAstern]

theorem State.movesIntoGear_of_inputs (h : s.SameInputs t) {e : Fin 4}
    (hc : t.prop.channels[e] = s.prop.channels[e]) : t.movesIntoGear e = s.movesIntoGear e := by
  rw [State.movesIntoGear, State.geared_of_inputs h, hc, State.movesIntoGear]

theorem State.flanking_kind {on : Fin 4 → Bool} {j : Fin 8} (h : s.flanking on j = true) :
    (s.actuatorEntry j).kind = .flanking := by
  simp only [State.flanking, Bool.and_eq_true, decide_eq_true_eq] at h
  exact h.1

theorem State.flanking_none (s : State) : (s.flanking fun _ => false) = fun _ => false :=
  funext fun _ => Bool.and_false _

end Reading

/-! ### Telling the neighbours (R71, R90, R139) -/

section Telling

variable (b : Bool) (s : State)

@[simp] theorem State.tellEngaged_prop : (s.tellEngaged b).prop = s.prop := by
  rcases s.tellEngaged_cases b with h | ⟨i, h⟩ <;> simp [h]

theorem State.tellEngaged_inputs : s.SameInputs (s.tellEngaged b) := by
  rcases s.tellEngaged_cases b with h | ⟨i, h⟩ <;> rw [h] <;> constructor <;> simp

theorem State.withDrive_inputs (p : PropulsionUnit) (on : Fin 8 → Bool) : s.SameInputs (s.withDrive p on) :=
  ⟨rfl, rfl, rfl, rfl⟩

theorem State.SameInputs.trans {s t u : State} (h : s.SameInputs t) (k : t.SameInputs u) : s.SameInputs u :=
  ⟨k.mgmt.trans h.mgmt, k.params.trans h.params, k.station.trans h.station, k.fuel.trans h.fuel⟩

theorem State.enginesEngaged_of_channel {s : State} {e : Fin 4} {c : EngineChannel} (hc : s.prop.channels[e] = some c)
    (hgear : c.gear.inGear = true) : s.enginesEngaged = true := by
  rw [State.enginesEngaged, List.any_eq_true]
  exact ⟨e, List.mem_finRange e, by rw [hc]; exact hgear⟩

theorem State.zeroFlanking_eq (e : Fin 4) :
    s.zeroFlanking e = s.withDrive s.prop (s.flanking fun k => decide (k = e)) := by
  have hv : (s.zeroFlanking e).steer.actuators = (s.withDrive s.prop (s.flanking fun k => decide (k = e))).steer.actuators := by
    refine vector_ext fun j => ?_
    simp only [State.zeroFlanking, State.withDrive, remap_get, State.flanking, ← Bool.decide_and]
    cases s.steer.actuators[j] with
    | none => rfl
    | some a => simp [Actuator.zeroedIf, apply_ite some]
  exact congrArg (fun v => { s with steer := { s.steer with actuators := v } }) hv

/-- What the gear step tells the neighbours, by what it has made of the channel (R71, R90, R139). -/
theorem State.gearMoved_eq {e : Fin 4} {was now : Gear} (hgear : now.inGear = true → s.enginesEngaged = true) :
    s.gearMoved e was now =
      (s.withDrive s.prop (s.flanking fun k => decide (k = e) && decide (was = .astern ∧ now ≠ .astern))).tellEngaged
        (decide (now ≠ was ∧ now.inGear = true)) := by
  have hzero : (if was = .astern ∧ now ≠ .astern then s.zeroFlanking e else s) =
      s.withDrive s.prop (s.flanking fun k => decide (k = e) && decide (was = .astern ∧ now ≠ .astern)) := by
    split
    · rename_i h
      simp only [h, State.zeroFlanking_eq, ne_eq, not_false_eq_true, and_self, decide_true, Bool.and_true]
    · rename_i h
      simp only [h, decide_false, Bool.and_false, State.flanking_none, State.withDrive_none]
  unfold State.gearMoved
  rw [hzero]
  split
  · rename_i h
    rw [State.checkLock_enginesEngaged, decide_eq_true h, ← hgear h.2]
    rfl
  · rename_i h
    rw [decide_eq_false h, State.tellEngaged_false]

/-- Storing a channel is an update of the propulsion unit. -/
theorem State.withChannel_eq (e : Fin 4) (c : EngineChannel) :
    s.withChannel e c = s.withDrive { s.prop with channels := put s.prop.channels e (some c) } fun _ => false :=
  (State.withDrive_none _ s).symm

end Telling

/-! ### Pass 1 (R42) -/

/-- The channels with those of a set of engines advanced. -/
def State.advancedChannels (s : State) (level elapsed : Nat) (on : Fin 4 → Bool) : Vector (Option EngineChannel) 4 :=
  remap s.prop.channels fun e c => if on e then c.map (s.advanced level elapsed e) else c

/-- Pass 1 for a set of engines, before the release controller is told: their channels are advanced, and the targets of the
FLANKING actuators of those leaving ASTERN are 0 (R42, R90). -/
def State.driven (s : State) (level elapsed : Nat) (on : Fin 4 → Bool) : State :=
  s.withDrive { s.prop with channels := s.advancedChannels level elapsed on }
    (s.flanking fun e => on e && s.leavesAstern e)

section Passing

variable (level elapsed : Nat) {s : State} {e : Fin 4}

theorem State.driven_none : s.driven level elapsed (fun _ => false) = s := by
  have hchannels : s.advancedChannels level elapsed (fun _ => false) = s.prop.channels :=
    vector_ext fun k => remap_get _ _ k
  simp only [State.driven, hchannels, Bool.false_and, State.flanking_none, State.withDrive_none]

/-- An engine without a channel is passed over. -/
theorem State.passOne_absent (hc : s.prop.channels[e] = none) : s.passOne level elapsed e = s := by
  rw [State.passOne, hc]

theorem State.driven_absent (hc : s.prop.channels[e] = none) (on : Fin 4 → Bool) :
    s.driven level elapsed (fun k => decide (k = e) || on k) = s.driven level elapsed on := by
  have hchannels : s.advancedChannels level elapsed (fun k => decide (k = e) || on k) =
      s.advancedChannels level elapsed on := by
    refine vector_ext fun k => ?_
    simp only [State.advancedChannels, remap_get]
    by_cases hk : k = e
    · simp [hk, hc]
    · simp [hk]
  have hleaves : (fun k => (decide (k = e) || on k) && s.leavesAstern k) = fun k => on k && s.leavesAstern k := by
    funext k
    by_cases hk : k = e
    · simp [hk, State.leavesAstern, hc]
    · simp [hk]
  rw [State.driven, hchannels, hleaves]
  rfl

/-- The channel of an engine is advanced, and the neighbours are told (R42, R71, R90). -/
theorem State.passOne_present {c : EngineChannel} (hc : s.prop.channels[e] = some c) :
    s.passOne level elapsed e = (s.driven level elapsed fun k => decide (k = e)).tellEngaged (s.movesIntoGear e) := by
  have hleaves : (fun k => decide (k = e) && decide (c.gear = .astern ∧ (s.geared e c).gear ≠ .astern)) =
      fun k => decide (k = e) && s.leavesAstern k := by
    funext k
    by_cases hk : k = e
    · simp [hk, State.leavesAstern, hc]
    · simp [hk]
  have hmoves : decide ((s.geared e c).gear ≠ c.gear ∧ (s.geared e c).gear.inGear = true) = s.movesIntoGear e := by
    rw [State.movesIntoGear, hc]
    rfl
  have hmoved : (s.withChannel e (s.geared e c)).gearMoved e c.gear (s.geared e c).gear =
      ((s.withChannel e (s.geared e c)).withDrive (s.withChannel e (s.geared e c)).prop
        (s.flanking fun k => decide (k = e) && s.leavesAstern k)).tellEngaged (s.movesIntoGear e) := by
    rw [State.gearMoved_eq _ (State.enginesEngaged_of_channel (put_get_same _ _ _)), hmoves, ← hleaves]
    rfl
  have hinputs : s.SameInputs ((s.withChannel e (s.geared e c)).gearMoved e c.gear (s.geared e c).gear) := by
    constructor <;> simp
  have hchannels : put (put s.prop.channels e (some (s.geared e c))) e (some (s.advanced level elapsed e c)) =
      s.advancedChannels level elapsed fun k => decide (k = e) := by
    refine vector_ext fun k => ?_
    rw [put_put, put_get, State.advancedChannels, remap_get]
    by_cases hk : k = e
    · subst hk
      simp [hc]
    · simp [hk, Ne.symm hk]
  have hpass : s.passOne level elapsed e =
      ((s.withChannel e (s.geared e c)).gearMoved e c.gear (s.geared e c).gear).withChannel e
        (s.advanced level elapsed e c) := by
    rw [State.advanced, ← State.setpoint_of_inputs hinputs, State.passOne, hc]
    rfl
  rw [hpass, hmoved, State.withChannel_eq, ← State.tellEngaged_withDrive _ _ _ _ (by simp), State.withChannel_eq,
    State.withDrive_withDrive, State.withDrive_withDrive, State.tellEngaged_prop, State.driven, ← hchannels]
  simp only [Bool.false_or, Bool.or_false]
  rfl

theorem State.flanking_of_mgmt {s t : State} (h : t.mgmt = s.mgmt) : t.flanking = s.flanking := by
  funext on j
  rw [State.flanking, State.actuatorEntry_of_mgmt h, State.flanking]

theorem State.driven_inputs (s : State) (on : Fin 4 → Bool) : s.SameInputs (s.driven level elapsed on) :=
  s.withDrive_inputs _ _

theorem State.driven_channel (s : State) (on : Fin 4 → Bool) (e : Fin 4) :
    (s.driven level elapsed on).prop.channels[e] =
      if on e then (s.prop.channels[e]).map (s.advanced level elapsed e) else s.prop.channels[e] :=
  remap_get _ _ e

/-- What the release controller is told and what pass 1 makes of the channels do not meet. -/
theorem State.tellEngaged_driven (b : Bool) (s : State) (on : Fin 4 → Bool) :
    (s.tellEngaged b).driven level elapsed on = (s.driven level elapsed on).tellEngaged b := by
  have hinputs := s.tellEngaged_inputs b
  have hprop := s.tellEngaged_prop b
  have hleaves : (s.tellEngaged b).leavesAstern = s.leavesAstern :=
    funext fun e => State.leavesAstern_of_inputs hinputs (by rw [hprop])
  simp only [State.driven, State.advancedChannels, State.advanced_of_inputs hinputs, hprop, hleaves,
    State.flanking_of_mgmt hinputs.mgmt]
  exact (State.tellEngaged_withDrive _ _ s b fun j => State.flanking_kind).symm

/-- Pass 1 for two sets of engines, one after the other, when the second has none of the first. -/
theorem State.driven_driven (s : State) {on off : Fin 4 → Bool} (h : ∀ e, off e = true → on e = false) :
    (s.driven level elapsed on).driven level elapsed off = s.driven level elapsed fun e => on e || off e := by
  have hinputs := s.driven_inputs level elapsed on
  have hchannels : (s.driven level elapsed on).advancedChannels level elapsed off =
      s.advancedChannels level elapsed fun e => on e || off e := by
    refine vector_ext fun e => ?_
    simp only [State.advancedChannels, remap_get, State.advanced_of_inputs hinputs, State.driven_channel]
    by_cases hoff : off e = true
    · simp [hoff, h e hoff]
    · simp [hoff]
  have hleaves : (fun e => (on e && s.leavesAstern e) || (off e && (s.driven level elapsed on).leavesAstern e)) =
      fun e => (on e || off e) && s.leavesAstern e := by
    funext e
    by_cases hoff : off e = true
    · rw [State.leavesAstern_of_inputs hinputs (by rw [State.driven_channel, h e hoff]; rfl), Bool.and_or_distrib_right]
    · simp [hoff]
  have hflanking (f g : Fin 4 → Bool) : (fun j => s.flanking f j || s.flanking g j) = s.flanking fun e => f e || g e :=
    funext fun j => (Bool.and_or_distrib_left _ _ _).symm
  rw [State.driven, hchannels, State.flanking_of_mgmt hinputs.mgmt, State.driven, State.withDrive_withDrive, hflanking,
    ← State.driven, hleaves]
  rfl

end Passing

/-- Pass 1 for a list of engines: each channel is advanced by what stood before the expiry, and one abort may come of it
(R42, R71; log entry 8). -/
theorem State.foldl_passOne (level elapsed : Nat) {l : List (Fin 4)} (hl : l.Nodup) (s : State) :
    l.foldl (State.passOne level elapsed) s =
      (s.driven level elapsed fun e => decide (e ∈ l)).tellEngaged (l.any s.movesIntoGear) := by
  induction l generalizing s with
  | nil => simp [State.driven_none, State.tellEngaged_false]
  | cons e es ih =>
    obtain ⟨he, hes⟩ := List.nodup_cons.mp hl
    have hmem : (fun k => decide (k ∈ e :: es)) = fun k => decide (k = e) || decide (k ∈ es) := by
      funext k
      simp
    rw [List.foldl_cons, List.any_cons, hmem]
    rcases hc : s.prop.channels[e] with - | c
    · rw [State.passOne_absent level elapsed hc, ih hes, State.driven_absent level elapsed hc, State.movesIntoGear, hc]
      rfl
    · rw [ih hes, State.passOne_present level elapsed hc]
      have hdisjoint (k : Fin 4) (hk : k ∈ es) : k ≠ e := fun h => he (h ▸ hk)
      have hinputs := (s.driven_inputs level elapsed fun k => decide (k = e)).trans
        (State.tellEngaged_inputs (s.movesIntoGear e) _)
      have hmoves : es.any ((s.driven level elapsed fun k => decide (k = e)).tellEngaged
          (s.movesIntoGear e)).movesIntoGear = es.any s.movesIntoGear := by
        rw [List.any_eq, List.any_eq]
        refine decide_eq_decide.mpr (exists_congr fun k => and_congr_right fun hk => ?_)
        rw [State.movesIntoGear_of_inputs hinputs]
        rw [State.tellEngaged_prop, State.driven_channel, decide_eq_false (hdisjoint k hk)]
        rfl
      rw [hmoves, State.tellEngaged_driven, State.driven_driven, State.tellEngaged_tellEngaged]
      simpa using hdisjoint

end Sys2Proof.Machine
end

section
/-! PROOF. Groups and pass 2 of a ramp-timer expiry: the members of a group, the gear it is active in, and the test of a group as
one update of its indication and trims (R78, R79). -/

namespace Sys2Proof.Machine

/-! ### Groups (R78, R79) -/

/-- An engine has a channel `c` and belongs to a group (R78). -/
def State.IsMember (s : State) (g : Nat) (e : Fin 4) (c : EngineChannel) : Prop :=
  s.prop.channels[e] = some c ∧ (s.engineEntry e).group = g

/-- An engine is the member of lowest index of a group (R78). -/
def State.Leads (s : State) (g : Nat) (k : Fin 4) : Prop := (∃ c, s.IsMember g k c) ∧ ∀ j < k, ¬∃ c, s.IsMember g j c

/-- A group has at least two members, all LIVE with equal last targets and all in the gear of a direction (R79). -/
def State.InUnison (s : State) (g : Nat) (d : Direction) : Prop :=
  (∃ k j c, s.Leads g k ∧ s.IsMember g j c ∧ j ≠ k) ∧ ∃ target, ∀ k c, s.IsMember g k c →
    c.fresh = .live ∧ c.lastTarget = target ∧ (d = .ahead ∧ c.gear = .ahead ∨ d = .astern ∧ c.gear = .astern)

section Groups

variable {s : State} {g : Nat}

theorem State.mem_members {e : Fin 4} {c : EngineChannel} : (e, c) ∈ s.members g ↔ s.IsMember g e c := by
  simp only [State.members, List.mem_filterMap, List.mem_finRange, true_and, State.IsMember]
  constructor
  · rintro ⟨k, hk⟩
    split at hk
    · rename_i d hd
      split at hk
      · rename_i hg
        obtain ⟨rfl, rfl⟩ := Prod.mk.inj (Option.some.inj hk)
        exact ⟨hd, hg⟩
      · cases hk
    · cases hk
  · rintro ⟨hc, hg⟩
    exact ⟨e, by simp [hc, hg]⟩

/-- The members stand in index order (R78). -/
theorem State.members_pairwise : (s.members g).Pairwise fun m n => m.1 < n.1 := by
  have hindex {e : Fin 4} {m : Fin 4 × EngineChannel} (h : (match s.prop.channels[e] with
      | some ch => if (s.engineEntry e).group = g then some (e, ch) else none
      | none => none) = some m) : m.1 = e := by
    split at h
    · split at h
      · rw [← Option.some.inj h]
      · cases h
    · cases h
  rw [State.members, List.pairwise_filterMap]
  exact (List.pairwise_lt_finRange 4).imp fun hlt m hm n hn => by rwa [hindex hm, hindex hn]

theorem State.leads_of_members {m : Fin 4 × EngineChannel} {ms : List (Fin 4 × EngineChannel)}
    (h : s.members g = m :: ms) (k : Fin 4) : s.Leads g k ↔ k = m.1 := by
  have hfirst : s.IsMember g m.1 m.2 := State.mem_members.mp (by rw [h]; exact List.mem_cons_self)
  have hlow : ∀ j < m.1, ¬∃ c, s.IsMember g j c := by
    rintro j hj ⟨c, hc⟩
    have hpairs := s.members_pairwise (g := g)
    rw [h, List.pairwise_cons] at hpairs
    rcases List.mem_cons.mp (h ▸ State.mem_members.mpr hc) with heq | hmem
    · exact absurd (congrArg Prod.fst heq) hj.ne
    · exact absurd (hpairs.1 _ hmem) hj.not_gt
  constructor
  · rintro ⟨⟨c, hc⟩, hk⟩
    rcases lt_trichotomy k m.1 with hlt | heq | hgt
    · exact absurd ⟨c, hc⟩ (hlow k hlt)
    · exact heq
    · exact absurd ⟨_, hfirst⟩ (hk _ hgt)
  · rintro rfl
    exact ⟨⟨_, hfirst⟩, hlow⟩

theorem State.lead_eq_some_iff (k : Fin 4) : (s.lead g).map (·.1) = some k ↔ s.Leads g k := by
  rw [State.lead]
  rcases h : s.members g with - | ⟨m, ms⟩
  · simp only [List.head?_nil, Option.map_none, reduceCtorEq, false_iff]
    rintro ⟨⟨c, hc⟩, -⟩
    exact absurd (h ▸ State.mem_members.mpr hc) List.not_mem_nil
  · rw [State.leads_of_members h]
    simp [eq_comm]

/-- The direction of a running gear state (R79). -/
def Gear.runs : Gear → Option Direction
  | .ahead => some .ahead
  | .astern => some .astern
  | .neutral => none
  | .slowing => none
  | .dwell => none

theorem Gear.runs_eq_some_iff (x : Gear) (d : Direction) :
    x.runs = some d ↔ d = .ahead ∧ x = .ahead ∨ d = .astern ∧ x = .astern := by
  cases x <;> simp [Gear.runs, eq_comm]

theorem State.groupActive_of_members {m f : Fin 4 × EngineChannel} {rest : List (Fin 4 × EngineChannel)}
    (h : s.members g = m :: f :: rest) : s.groupActive g =
      if decide (m.2.fresh = .live) && (f :: rest).all fun n =>
        decide (n.2.gear = m.2.gear ∧ n.2.lastTarget = m.2.lastTarget ∧ n.2.fresh = .live)
      then m.2.gear.runs else none := by
  unfold State.groupActive
  rw [h]
  rfl

/-- A group runs in unison when its first two members exist and every member agrees with the first (R79). -/
theorem State.inUnison_of_members {m f : Fin 4 × EngineChannel} {rest : List (Fin 4 × EngineChannel)}
    (h : s.members g = m :: f :: rest) (d : Direction) :
    s.InUnison g d ↔ (m.2.fresh = .live ∧ ∀ n ∈ f :: rest,
      n.2.gear = m.2.gear ∧ n.2.lastTarget = m.2.lastTarget ∧ n.2.fresh = .live) ∧
      (d = .ahead ∧ m.2.gear = .ahead ∨ d = .astern ∧ m.2.gear = .astern) := by
  have hmember (n : Fin 4 × EngineChannel) : s.IsMember g n.1 n.2 ↔ n = m ∨ n ∈ f :: rest := by
    rw [← State.mem_members, h, List.mem_cons]
  have hfirst := (hmember m).mpr (.inl rfl)
  constructor
  · rintro ⟨-, target, hall⟩
    obtain ⟨hlive, htarget, hgear⟩ := hall _ _ hfirst
    refine ⟨⟨hlive, fun n hn => ?_⟩, hgear⟩
    obtain ⟨hlive', htarget', hgear'⟩ := hall _ _ ((hmember n).mpr (.inr hn))
    refine ⟨?_, htarget'.trans htarget.symm, hlive'⟩
    rcases hgear with ⟨rfl, hg⟩ | ⟨rfl, hg⟩ <;> simpa [hg] using hgear'
  · rintro ⟨⟨hlive, hall⟩, hgear⟩
    have hsecond := (hmember f).mpr (.inr List.mem_cons_self)
    have hlt : m.1 < f.1 := by
      have hpairs := s.members_pairwise (g := g)
      rw [h, List.pairwise_cons] at hpairs
      exact hpairs.1 _ List.mem_cons_self
    refine ⟨⟨m.1, f.1, f.2, (State.leads_of_members h _).mpr rfl, hsecond, hlt.ne'⟩, m.2.lastTarget, fun k c hc => ?_⟩
    rcases (hmember (k, c)).mp hc with rfl | hn
    · exact ⟨hlive, rfl, hgear⟩
    · obtain ⟨hg, htarget, hfresh⟩ := hall _ hn
      exact ⟨hfresh, htarget, hg ▸ hgear⟩

/-- The gear a group is found active in is the direction it runs in unison (R79). -/
theorem State.groupActive_eq_some_iff (d : Direction) : s.groupActive g = some d ↔ s.InUnison g d := by
  rcases h : s.members g with - | ⟨m, - | ⟨f, rest⟩⟩
  · simp only [State.groupActive, h, reduceCtorEq, false_iff]
    rintro ⟨⟨k, j, c, -, hc, -⟩, -⟩
    exact absurd (h ▸ State.mem_members.mpr hc) List.not_mem_nil
  · simp only [State.groupActive, h, reduceCtorEq, false_iff]
    rintro ⟨⟨k, j, c, hk, hc, hne⟩, -⟩
    have hj := congrArg Prod.fst (List.mem_singleton.mp (h ▸ State.mem_members.mpr hc))
    exact hne (hj.trans ((State.leads_of_members h k).mp hk).symm)
  · rw [State.inUnison_of_members h, ← Gear.runs_eq_some_iff, State.groupActive_of_members h]
    simp only [Option.ite_none_right_eq_some, Bool.and_eq_true, decide_eq_true_eq, List.all_eq_true]

end Groups

/-! ### Pass 2 (R79) -/

/-- A channel after the test of a group: a member's trim is 0 when the group is not active or for the lead, and is brought
within the limit otherwise (R79). -/
def State.synced (s : State) (g : Nat) (e : Fin 4) (c : EngineChannel) : EngineChannel :=
  if (s.engineEntry e).group = g then
    { c with trim := if (s.groupActive g).isNone ∨ (s.lead g).map (·.1) = some e then 0
      else clampInt (-(s.params.syncLimit : Int)) s.params.syncLimit c.trim }
  else c

/-- Channels stored one after the other are one update of the channels. -/
theorem State.foldl_storeChannel (F : Fin 4 → Option EngineChannel) (l : List (Fin 4)) (s : State) :
    l.foldl (fun t e => match F e with | some c => t.withChannel e c | none => t) s =
      s.withChannels (remap s.prop.channels fun e c => if e ∈ l then (F e).or c else c) := by
  induction l generalizing s with
  | nil =>
    have hsame : remap s.prop.channels (fun e c => if e ∈ [] then (F e).or c else c) = s.prop.channels :=
      vector_ext fun e => by simp
    rw [hsame]
    rfl
  | cons e es ih =>
    have hstored : (match F e with | some c => s.withChannel e c | none => s) =
        s.withChannels (put s.prop.channels e ((F e).or s.prop.channels[e])) := by
      cases F e with
      | none => rw [Option.none_or, put_get_id]; rfl
      | some c => rfl
    rw [List.foldl_cons, ih, hstored]
    refine congrArg (State.withChannels · s) (vector_ext fun k => ?_)
    simp only [State.withChannels, remap_get, put_get]
    by_cases hk : e = k
    · subst hk
      cases F e <;> simp
    · simp [hk, Ne.symm hk]

/-- Pass 2 for one group sets its indication and the trims of its members (R79). -/
theorem State.syncTest_eq (g : Nat) (s : State) :
    s.syncTest g = (s.setSync g (s.groupActive g)).withChannels
      (remap s.prop.channels fun e c => c.map (s.synced g e)) := by
  have hmembers (F : Fin 4 × EngineChannel → EngineChannel) (t : State) :
      (s.members g).foldl (fun t m => t.withChannel m.1 (F m)) t =
        (List.finRange 4).foldl (fun t e =>
          match (s.prop.channels[e]).bind fun c =>
            if (s.engineEntry e).group = g then some (F (e, c)) else none with
          | some c => t.withChannel e c
          | none => t) t := by
    rw [State.members, List.foldl_filterMap]
    refine congrArg (fun f => List.foldl f t (List.finRange 4)) (funext fun t => funext fun e => ?_)
    cases s.prop.channels[e] with
    | none => rfl
    | some c =>
      dsimp only [Option.bind_some]
      by_cases hg : (s.engineEntry e).group = g
      · rw [if_pos hg, if_pos hg]
      · rw [if_neg hg, if_neg hg]
  have hchannels : (s.setSync g (s.groupActive g)).prop.channels = s.prop.channels := by
    unfold State.setSync
    split <;> rfl
  unfold State.syncTest
  dsimp only
  rw [hmembers, State.foldl_storeChannel, hchannels]
  refine congrArg (State.withChannels · _) (vector_ext fun e => ?_)
  simp only [remap_get, List.mem_finRange, if_true]
  cases s.prop.channels[e] with
  | none => rfl
  | some c =>
    simp only [Option.bind_some, Option.map_some, State.synced]
    split <;> rfl

end Sys2Proof.Machine
end

section
/-! PROOF. Passes 2 and 3 as one update each, and the whole ramp-timer expiry (R41, R42, R58, R59, R79). -/

namespace Sys2Proof.Machine

/-- The propulsion unit after pass 2 (R79). -/
def State.synchronized (s : State) : State :=
  { s with prop := { s.prop with
      channels := remap s.prop.channels fun e c => c.map fun c => s.synced 2 e (s.synced 1 e c)
      sync1 := s.groupActive 1, sync2 := s.groupActive 2 } }

section Groups

variable {s t : State} {g : Nat}

/-- The members of a group are read from their own channels and the tables alone. -/
theorem State.members_congr (hm : t.mgmt = s.mgmt)
    (hc : ∀ e, (s.engineEntry e).group = g → t.prop.channels[e] = s.prop.channels[e]) : t.members g = s.members g := by
  refine List.filterMap_congr fun e _ => ?_
  rw [State.engineEntry_of_mgmt hm]
  by_cases hg : (s.engineEntry e).group = g
  · rw [hc e hg]
  · simp only [hg, if_false]
    cases t.prop.channels[e] <;> cases s.prop.channels[e] <;> rfl

theorem State.groupActive_congr (h : t.members g = s.members g) : t.groupActive g = s.groupActive g := by
  rw [State.groupActive, h, State.groupActive]

theorem State.lead_congr (h : t.members g = s.members g) : t.lead g = s.lead g := by
  rw [State.lead, h, State.lead]

theorem State.synced_congr (hm : t.mgmt = s.mgmt) (hp : t.params = s.params) (h : t.members g = s.members g) :
    t.synced g = s.synced g := by
  funext e c
  rw [State.synced, State.synced, State.engineEntry_of_mgmt hm, State.groupActive_congr h, State.lead_congr h, hp]

/-- The test of a group leaves the channels outside it. -/
theorem State.synced_other {e : Fin 4} (h : (s.engineEntry e).group ≠ g) (c : EngineChannel) : s.synced g e c = c :=
  if_neg h

/-- Pass 2 tests the groups independently of one another (R79). -/
theorem State.syncTest_syncTest (s : State) : (s.syncTest 1).syncTest 2 = s.synchronized := by
  have hchannels (e : Fin 4) : (s.syncTest 1).prop.channels[e] = (s.prop.channels[e]).map (s.synced 1 e) := by
    rw [State.syncTest_eq]
    exact remap_get _ _ e
  have hmembers : (s.syncTest 1).members 2 = s.members 2 := by
    refine State.members_congr (s.syncTest_mgmt 1) fun e he => ?_
    rw [hchannels, funext (State.synced_other (g := 1) (by omega)), Option.map_id']
  have htwice : remap (s.syncTest 1).prop.channels (fun e c => c.map ((s.syncTest 1).synced 2 e)) =
      remap s.prop.channels fun e c => c.map fun c => s.synced 2 e (s.synced 1 e c) := by
    refine vector_ext fun e => ?_
    rw [remap_get, remap_get, hchannels, State.synced_congr (s.syncTest_mgmt 1) (s.syncTest_params 1) hmembers,
      Option.map_map]
    rfl
  rw [State.syncTest_eq 2, htwice, State.groupActive_congr hmembers, State.syncTest_eq 1]
  rfl

theorem State.synchronized_eq (s : State) : s.synchronized = s.withDrive s.synchronized.prop fun _ => false :=
  (State.withDrive_none _ s).symm

theorem State.tellEngaged_synchronized (b : Bool) (s : State) :
    (s.tellEngaged b).synchronized = s.synchronized.tellEngaged b := by
  have hmembers (g : Nat) : (s.tellEngaged b).members g = s.members g :=
    State.members_congr (s.tellEngaged_inputs b).mgmt fun e _ => by rw [State.tellEngaged_prop]
  have hsynced (g : Nat) : (s.tellEngaged b).synced g = s.synced g :=
    State.synced_congr (s.tellEngaged_inputs b).mgmt (s.tellEngaged_inputs b).params (hmembers g)
  have hprop : (s.tellEngaged b).synchronized.prop = s.synchronized.prop := by
    simp only [State.synchronized, State.tellEngaged_prop, hsynced, State.groupActive_congr (hmembers _)]
  rw [State.synchronized_eq, hprop, ← State.tellEngaged_withDrive _ _ _ _ (by simp), ← State.synchronized_eq]

end Groups

/-! ### Pass 3 (R58, R59) -/

/-- A channel with its output rpm stored (R58). -/
def EngineChannel.paced (idle : Nat) (c : EngineChannel) : EngineChannel := { c with lastOutput := c.outputRpm idle }

/-- The channels of a set of engines with their output rpm stored (R58). -/
def State.pacedOn (s : State) (on : Fin 4 → Bool) : State :=
  s.withChannels (remap s.prop.channels fun e c =>
    if on e then c.map (EngineChannel.paced (s.engineEntry e).idle) else c)

/-- The GOV-SET of an engine that has a channel (R59). -/
def State.govFrame (s : State) (e : Fin 4) : Option Frame :=
  (s.prop.channels[e]).map fun c => govSet (s.engineEntry e).channel (c.outputRpm (s.engineEntry e).idle) c.gearSent

/-- A GOV-SET, when there is one, is offered to M (R59). -/
def State.emit (f : Option Frame) (s : State) : State :=
  match f with
  | none => s
  | some f => s.offerUrgent .m f

section Emitting

variable {s t : State}

theorem State.emit_prop (f : Option Frame) (s : State) : (s.emit f).prop = s.prop := by
  cases f <;> rfl

theorem State.emit_mgmt (f : Option Frame) (s : State) : (s.emit f).mgmt = s.mgmt := by
  cases f <;> rfl

theorem State.pacedOn_eq (s : State) (on : Fin 4 → Bool) :
    s.pacedOn on = s.withDrive (s.pacedOn on).prop fun _ => false :=
  (State.withDrive_none _ s).symm

theorem State.pacedOn_channel (s : State) (on : Fin 4 → Bool) (e : Fin 4) : (s.pacedOn on).prop.channels[e] =
    if on e then (s.prop.channels[e]).map (EngineChannel.paced (s.engineEntry e).idle) else s.prop.channels[e] :=
  remap_get _ _ e

/-- Storing output rpms and offering GOV-SETs do not meet. -/
theorem State.emit_pacedOn (f : Option Frame) (s : State) (on : Fin 4 → Bool) :
    (s.emit f).pacedOn on = (s.pacedOn on).emit f := by
  cases f <;> rfl

theorem State.tellEngaged_pacedOn (b : Bool) (s : State) (on : Fin 4 → Bool) :
    (s.tellEngaged b).pacedOn on = (s.pacedOn on).tellEngaged b := by
  have hprop : ((s.tellEngaged b).pacedOn on).prop = (s.pacedOn on).prop := by
    simp only [State.pacedOn, State.withChannels, State.tellEngaged_prop, State.engineEntry_of_mgmt (s.tellEngaged_inputs b).mgmt]
  rw [State.pacedOn_eq, hprop, ← State.tellEngaged_withDrive _ _ _ _ (by simp), ← State.pacedOn_eq]

theorem State.pacedOn_pacedOn (s : State) (on off : Fin 4 → Bool) :
    (s.pacedOn on).pacedOn off = s.pacedOn fun e => on e || off e := by
  have hchannels : ((s.pacedOn on).pacedOn off).prop.channels = (s.pacedOn fun e => on e || off e).prop.channels := by
    refine vector_ext fun e => ?_
    rw [State.pacedOn_channel, State.pacedOn_channel, State.pacedOn_channel]
    by_cases hoff : off e = true
    · by_cases hon : on e = true
      · rw [if_pos hoff, if_pos hon, if_pos (by simp [hon]), Option.map_map]
        rfl
      · rw [if_pos hoff, if_neg hon, if_pos (by simp [hoff])]
        rfl
    · simp only [hoff, Bool.or_false, if_neg, Bool.false_eq_true, not_false_eq_true]
  exact congrArg (State.withChannels · s) hchannels

theorem State.govFrame_congr (hp : t.prop = s.prop) (hm : t.mgmt = s.mgmt) : t.govFrame = s.govFrame := by
  funext e
  rw [State.govFrame, hp, State.engineEntry_of_mgmt hm, State.govFrame]

/-- A GOV-SET does not read the output rpm last stored. -/
theorem State.govFrame_pacedOn (s : State) (on : Fin 4 → Bool) : (s.pacedOn on).govFrame = s.govFrame := by
  funext e
  rw [State.govFrame, State.pacedOn_channel]
  split
  · rw [Option.map_map]
    rfl
  · rfl

/-- Pass 3 for one engine stores its output rpm and sends it (R42, R58, R59). -/
theorem State.passThree_eq (s : State) (e : Fin 4) :
    s.passThree e = (s.pacedOn fun k => decide (k = e)).emit (s.govFrame e) := by
  have hchannels : (s.pacedOn fun k => decide (k = e)).prop.channels =
      put s.prop.channels e ((s.prop.channels[e]).map (EngineChannel.paced (s.engineEntry e).idle)) := by
    refine vector_ext fun k => ?_
    rw [State.pacedOn_channel, put_get]
    by_cases hk : k = e
    · subst hk
      simp
    · simp [hk, Ne.symm hk]
  have hpaced : (s.pacedOn fun k => decide (k = e)) =
      s.withChannels (put s.prop.channels e ((s.prop.channels[e]).map (EngineChannel.paced (s.engineEntry e).idle))) :=
    congrArg (State.withChannels · s) hchannels
  rw [hpaced, State.govFrame]
  unfold State.passThree
  cases hc : s.prop.channels[e] with
  | none =>
    show s = s.withChannels (put s.prop.channels e none)
    rw [← hc, put_get_id]
    rfl
  | some c => rfl

/-- Pass 3 for a list of engines stores the output rpms and sends the GOV-SETs in order (R42). -/
theorem State.foldl_passThree (l : List (Fin 4)) (s : State) :
    l.foldl State.passThree s =
      l.foldl (fun t e => t.emit (s.govFrame e)) (s.pacedOn fun e => decide (e ∈ l)) := by
  induction l generalizing s with
  | nil =>
    have hsame : remap s.prop.channels (fun e c => if decide (e ∈ []) then
        c.map (EngineChannel.paced (s.engineEntry e).idle) else c) = s.prop.channels :=
      vector_ext fun e => by simp
    rw [State.pacedOn, hsame]
    rfl
  | cons e es ih =>
    have hframes : (s.passThree e).govFrame = s.govFrame := by
      rw [State.passThree_eq, State.govFrame_congr (State.emit_prop _ _) (State.emit_mgmt _ _), State.govFrame_pacedOn]
    have hmem : (fun k => decide (k ∈ e :: es)) = fun k => decide (k = e) || decide (k ∈ es) := by
      funext k
      simp
    rw [List.foldl_cons, ih, hframes, State.passThree_eq, State.emit_pacedOn, State.pacedOn_pacedOn, hmem,
      List.foldl_cons]

end Emitting

/-! ### The whole expiry (R41, R42) -/

/-- The state after pass 1 but for the release controller: the timer reloaded and every channel advanced (R41, R42). -/
def State.passedOne (s : State) : State :=
  ({ s with prop := { s.prop with rampTimer := s.params.propInterval } } : State).driven s.coup.level s.prop.rampTimer
    fun _ => true

/-- A ramp-timer expiry: the propulsion unit after the three passes, the release controller told once whether a channel has
moved into gear, then the GOV-SETs in index order (R41, R42, R71). -/
theorem State.rampExpiry_eq (s : State) :
    s.rampExpiry = (List.finRange 4).foldl (fun t e => t.emit (s.passedOne.synchronized.govFrame e))
      ((s.passedOne.synchronized.pacedOn fun _ => true).tellEngaged ((List.finRange 4).any s.movesIntoGear)) := by
  have hall : (fun e => decide (e ∈ List.finRange 4)) = fun _ => true := funext fun e => by simp
  unfold State.rampExpiry
  dsimp only
  rw [State.foldl_passOne _ _ (List.nodup_finRange 4), State.foldl_passThree, State.syncTest_syncTest, hall,
    State.tellEngaged_synchronized, State.tellEngaged_pacedOn,
    State.govFrame_congr (State.tellEngaged_prop _ _) (State.tellEngaged_inputs _ _).mgmt]
  rfl

end Sys2Proof.Machine
end

section
/-! PROOF. A ramp-timer expiry in the words of the statement RampTimerRunsThreePasses. -/

namespace Sys2Proof.Machine

section Parts

variable (s : State)

/-- The channels after pass 1, each by what stood before the expiry (R42). -/
theorem State.passedOne_channel (e : Fin 4) : s.passedOne.prop.channels[e] =
    (s.prop.channels[e]).map (s.advanced s.coup.level s.prop.rampTimer e) :=
  remap_get _ _ e

/-- The actuators after pass 1: the FLANKING ones of an engine that leaves ASTERN have target 0 (R90). -/
theorem State.passedOne_actuator (j : Fin 8) : s.passedOne.steer.actuators[j] =
    (s.steer.actuators[j]).map (Actuator.zeroedIf (s.flanking s.leavesAstern j)) :=
  remap_get _ _ j

theorem State.any_movesIntoGear_iff : (List.finRange 4).any s.movesIntoGear = true ↔
    ∃ (e : Fin 4) (c : EngineChannel), s.prop.channels[e] = some c ∧
      (s.geared e c).gear ≠ c.gear ∧ (s.geared e c).gear.inGear = true := by
  simp only [List.any_eq_true, List.mem_finRange, true_and, State.movesIntoGear, Option.any_eq_true,
    decide_eq_true_eq]

theorem Gear.inGear_iff (x : Gear) : x.inGear = true ↔ x = .ahead ∨ x = .astern ∨ x = .slowing := by
  cases x <;> simp [Gear.inGear]

/-- A release is left alone when its coupling does not lock ENGINES_ENGAGED or no channel moves into gear (R139). -/
theorem State.tellEngaged_free {s : State} {b : Bool}
    (h : ∀ i, s.coup.slot = some i → (s.couplingEntry i).hasLock .enginesEngaged = true → ¬b = true) :
    s.tellEngaged b = s := by
  rcases hslot : s.coup.slot with - | i
  · rw [State.tellEngaged, hslot]
  · simp only [State.tellEngaged, hslot, Bool.and_eq_true]
    exact if_neg fun hboth => h i hslot hboth.1 hboth.2

theorem State.tellEngaged_abort {s : State} {i : Fin 48} (hslot : s.coup.slot = some i)
    (hlock : (s.couplingEntry i).hasLock .enginesEngaged = true) : s.tellEngaged true = s.abortRelease i := by
  simp only [State.tellEngaged, hslot, hlock, Bool.and_self, if_true]

/-- A member of a group that is not active, and the lead, are not trimmed (R79). -/
theorem State.synced_still {s : State} {g : Nat} {e : Fin 4} (hg : (s.engineEntry e).group = g)
    (h : s.groupActive g = none ∨ s.Leads g e) (c : EngineChannel) : s.synced g e c = { c with trim := 0 } := by
  rw [State.synced, if_pos hg, if_pos]
  rwa [Option.isNone_iff_eq_none, State.lead_eq_some_iff]

/-- A follower of an active group keeps its trim within the limit (R79). -/
theorem State.synced_follower {s : State} {g : Nat} {e : Fin 4} (hg : (s.engineEntry e).group = g)
    (h : ¬(s.groupActive g = none ∨ s.Leads g e)) (c : EngineChannel) : s.synced g e c =
      { c with trim := max (-(s.params.syncLimit : Int)) (min s.params.syncLimit c.trim) } := by
  rw [State.synced, if_pos hg, if_neg]
  · rfl
  · rwa [Option.isNone_iff_eq_none, State.lead_eq_some_iff]

/-- The tests of the two groups set one trim of a channel, that of its group (R79). -/
theorem State.synced_synced {s : State} {e : Fin 4} {c : EngineChannel} {trim : Int}
    (grouped still : Prop) (hgrouped : grouped ↔ (s.engineEntry e).group = 1 ∨ (s.engineEntry e).group = 2)
    (hstill : still ↔ (s.engineEntry e).group = 1 ∧ s.groupActive 1 = none ∨
      (s.engineEntry e).group = 2 ∧ s.groupActive 2 = none ∨ s.Leads (s.engineEntry e).group e)
    (hzero : grouped → still → trim = 0)
    (hlimit : grouped → ¬still → trim = max (-(s.params.syncLimit : Int)) (min s.params.syncLimit c.trim))
    (hkept : ¬grouped → trim = c.trim) :
    s.synced 2 e (s.synced 1 e c) = { c with trim := trim } := by
  have hgroup {g : Nat} (hg : (s.engineEntry e).group = g) (hin : grouped)
      (hsame : still ↔ s.groupActive g = none ∨ s.Leads g e) : s.synced g e c = { c with trim := trim } := by
    by_cases hs : still
    · rw [State.synced_still hg (hsame.mp hs), hzero hin hs]
    · rw [State.synced_follower hg (mt hsame.mpr hs), hlimit hin hs]
  by_cases h1 : (s.engineEntry e).group = 1
  · rw [State.synced_other (g := 2) (by omega), hgroup h1 (hgrouped.mpr (.inl h1)) (hstill.trans (by simp [h1]))]
  · rw [State.synced_other (g := 1) h1]
    by_cases h2 : (s.engineEntry e).group = 2
    · exact hgroup h2 (hgrouped.mpr (.inr h2)) (hstill.trans (by simp [h2]))
    · rw [State.synced_other h2, hkept (mt hgrouped.mp (by simp [h1, h2]))]

/-- The GOV-SET of an engine carries the output rpm that pass 3 stores (R58, R59). -/
theorem State.emit_govFrame (e : Fin 4) (u : State) : u.emit (s.govFrame e) =
    match (s.pacedOn fun _ => true).prop.channels[e] with
    | none => u
    | some c => u.offerUrgent .m
        (frameOf 1 (s.engineEntry e).channel (fieldOf 2 c.lastOutput ++ [directionCode c.gearSent])) := by
  rw [State.pacedOn_channel, if_pos rfl, State.govFrame]
  cases s.prop.channels[e] <;> rfl

theorem EngineChannel.directionCode_gearSent (c : EngineChannel) : directionCode c.gearSent =
    match c.gear, c.engaged with
    | .ahead, _ => 1
    | .astern, _ => 2
    | .slowing, .ahead => 1
    | .slowing, .astern => 2
    | _, _ => 0 := by
  unfold EngineChannel.gearSent
  cases c.gear with
  | slowing => cases c.engaged <;> rfl
  | _ => rfl

end Parts

/-- Settles O53. -/
theorem rampTimerRunsThreePasses : Obligations.RampTimerRunsThreePasses := by
  intro s hr x lever dir geared one leaves engages zeroed actuators member lead unison lim sync1 sync2 trim hsync1 hsync2
    htrim three prop t send
  have hone : one = s.passedOne.prop.channels := by
    refine vector_ext fun e => ?_
    rw [State.passedOne_channel]
    exact remap_get _ _ e
  have hmember (g : Nat) (e : Fin 4) (c : EngineChannel) : member g e c = s.passedOne.IsMember g e c := by
    simp only [member, hone]
    rfl
  have hlead (g : Nat) (k : Fin 4) : lead g k = s.passedOne.Leads g k := by
    simp only [lead, hmember]
    rfl
  have hunison (g : Nat) (d : Direction) : unison g d = s.passedOne.InUnison g d := by
    simp only [unison, hlead, hmember]
    rfl
  have hactive {sync : Option Direction} {g : Nat} (h : ∀ d, sync = some d ↔ unison g d) :
      sync = s.passedOne.groupActive g := by
    refine Option.ext fun d => (h d).trans ?_
    rw [hunison, State.groupActive_eq_some_iff]
  have h1 := hactive hsync1
  have h2 := hactive hsync2
  have htrimmed {e : Fin 4} {c : EngineChannel} (hc : one[e] = some c) :
      s.passedOne.synced 2 e (s.passedOne.synced 1 e c) = { c with trim := trim e c } := by
    obtain ⟨hzero, hlimit, hkept⟩ := htrim e c hc
    refine State.synced_synced _ _ Iff.rfl ?_ hzero hlimit hkept
    rw [h1, h2, hlead]
    rfl
  have hthree : three = (s.passedOne.synchronized.pacedOn fun _ => true).prop.channels := by
    refine vector_ext fun e => ?_
    rw [State.pacedOn_channel, if_pos rfl]
    refine (remap_get _ _ e).trans ?_
    have hsynced : s.passedOne.synchronized.prop.channels[e] =
        (one[e]).map fun c => s.passedOne.synced 2 e (s.passedOne.synced 1 e c) := by
      rw [hone]
      exact remap_get _ _ e
    rw [hsynced]
    cases hc : one[e] with
    | none => rfl
    | some c =>
      rw [Option.map_some, Option.map_some, htrimmed hc]
      rfl
  have hactuators : actuators = s.passedOne.steer.actuators := by
    refine vector_ext fun j => ?_
    rw [State.passedOne_actuator]
    refine (remap_get _ _ j).trans (congrArg (Option.map · _) (funext fun a => if_congr ?_ rfl rfl))
    rw [State.flanking, Bool.and_eq_true, decide_eq_true_eq]
    rfl
  have ht : t = s.passedOne.synchronized.pacedOn fun _ => true := by
    show ({ s with
      prop := { rampTimer := s.params.propInterval, channels := three, sync1 := sync1, sync2 := sync2 }
      steer := { s.steer with actuators := actuators } } : State) = _
    rw [hthree, hactuators, h1, h2]
    rfl
  have hsend (u : State) (e : Fin 4) : send u e = u.emit (s.passedOne.synchronized.govFrame e) := by
    rw [State.emit_govFrame, ← hthree]
    dsimp only [send]
    cases three[e] with
    | none => rfl
    | some c => exact congrArg (fun gear => u.offerUrgent .m
        (frameOf 1 (x e).channel (fieldOf 2 c.lastOutput ++ [gear]))) c.directionCode_gearSent.symm
  have hengages : (List.finRange 4).any s.movesIntoGear = true ↔ engages := by
    rw [State.any_movesIntoGear_iff]
    simp only [Gear.inGear_iff]
    rfl
  have hexec : exec .rampTimerExpiry s =
      .next ((List.finRange 4).foldl send (t.tellEngaged ((List.finRange 4).any s.movesIntoGear))) := by
    have hfold : send = fun u e => u.emit (s.passedOne.synchronized.govFrame e) := funext fun u => funext (hsend u)
    rw [ht, hfold, ← State.rampExpiry_eq, exec, execRampTimerExpiry, hr]
    rfl
  constructor
  · intro hfree
    rw [hexec, State.tellEngaged_free (s := t) fun i hslot hlock => mt hengages.mp (hfree i hslot hlock)]
  · intro i hslot hlock hmoves
    rw [hexec, hengages.mpr hmoves, State.tellEngaged_abort (s := t) hslot hlock]

end Sys2Proof.Machine
end

section
/-! PROOF. The ranges of one engine channel (R44, R53, R58, R63, R69): what the gear step, the setpoint stages and the output
keep of them. -/

namespace Sys2Proof.Machine

/-- The computation fields of a channel but for its output lie in their ranges, and its engaged direction and dwell timer fit
its gear state (R44, R53, R63, R69). -/
structure EngineChannel.InRange (idle : Nat) (c : EngineChannel) : Prop where
  idle_le : idle ≤ c.c
  setpoint_le : c.c ≤ 3000
  remainder_le : c.a ≤ 999
  raw_le : c.lastRaw ≤ 3000
  idle_le_target : idle ≤ c.lastTarget
  target_le : c.lastTarget ≤ c.lastCap
  cap_le : c.lastCap ≤ 3000
  engaged : c.engaged = .neutral ↔ c.gear = .neutral ∨ c.gear = .dwell
  opened : c.gear = .neutral ∨ c.gear = .dwell → c.c = idle
  dwelling : c.dwellTimer.isSome = true ↔ c.gear = .dwell

/-- `State.channelSound` of a channel as a proposition with named parts. -/
structure EngineChannel.Sound (idle : Nat) (c : EngineChannel) : Prop extends c.InRange idle where
  idle_le_output : idle ≤ c.lastOutput
  output_le : c.lastOutput ≤ c.lastCap

theorem State.channelSound_iff (s : State) (e : Fin 4) : s.channelSound e = true ↔
    ∀ c, s.prop.channels[e] = some c → c.Sound (s.engineEntry e).idle := by
  unfold State.channelSound
  rcases hc : s.prop.channels[e] with - | c
  · simp
  · simp only [Bool.and_eq_true, decide_eq_true_eq, Option.some.injEq, forall_eq']
    constructor
    · rintro ⟨⟨⟨⟨⟨⟨⟨⟨hidle, hc⟩, ha⟩, hraw⟩, hti, htc, hcap⟩, hoi, hoc⟩, heng⟩, hopen⟩, hdwell⟩
      exact ⟨⟨hidle, hc, ha, hraw, hti, htc, hcap, heng, hopen, hdwell⟩, hoi, hoc⟩
    · rintro ⟨⟨hidle, hc, ha, hraw, hti, htc, hcap, heng, hopen, hdwell⟩, hoi, hoc⟩
      exact ⟨⟨⟨⟨⟨⟨⟨⟨hidle, hc⟩, ha⟩, hraw⟩, hti, htc, hcap⟩, hoi, hoc⟩, heng⟩, hopen⟩, hdwell⟩

/-! ### Coming into being (R44, R64, R69) -/

theorem newChannel_sound {idle : Nat} (h : idle ≤ 3000) (load : Nat) : (newChannel idle load).Sound idle := by
  rw [newChannel_eq]
  exact {
    idle_le := le_rfl
    setpoint_le := h
    remainder_le := Nat.zero_le _
    raw_le := h
    idle_le_target := le_rfl
    target_le := le_rfl
    cap_le := h
    engaged := by by_cases hload : load = 0 <;> simp [hload]
    opened := fun _ => rfl
    dwelling := by by_cases hload : load = 0 <;> simp [hload]
    idle_le_output := le_rfl
    output_le := le_rfl }

/-! ### The gear step (R65 to R69) -/

section Gear

variable {idle : Nat} {c : EngineChannel} (h : c.InRange idle)

include h

theorem EngineChannel.InRange.stopped (hopen : c.gear ≠ .dwell) : c.dwellTimer = none :=
  Option.isNone_iff_eq_none.mp (by simpa using mt h.dwelling.mp hopen)

/-- A channel goes, or stays, in gear. -/
theorem EngineChannel.InRange.intoGear {gear : Gear} {engaged : Direction} (hopen : c.gear ≠ .dwell)
    (hgear : gear.inGear = true) (hengaged : engaged ≠ .neutral) :
    ({ c with gear := gear, engaged := engaged } : EngineChannel).InRange idle :=
  have hrunning : ¬(gear = .neutral ∨ gear = .dwell) := by rintro (rfl | rfl) <;> cases hgear
  { h with
    engaged := by simp [hengaged, hrunning]
    opened := fun hg => absurd hg hrunning
    dwelling := by
      have hstopped := h.stopped hopen
      have : gear ≠ .dwell := fun hg => hrunning (.inr hg)
      simp [hstopped, this] }

/-- A channel at idle opens its gear (R69). -/
theorem EngineChannel.InRange.enterDwell (hc : c.c = idle) (load : Nat) : (c.enterDwell load).InRange idle := by
  unfold EngineChannel.enterDwell
  split
  · exact { h with engaged := by simp, opened := fun _ => hc, dwelling := by simp }
  · exact { h with engaged := by simp, opened := fun _ => hc, dwelling := by simp }

theorem EngineChannel.InRange.gearStep (load : Nat) (dir : Direction) : (c.gearStep idle load dir).InRange idle := by
  have hgearOf (hdir : dir ≠ .neutral) : (gearOf dir).inGear = true := by
    cases dir with
    | neutral => exact absurd rfl hdir
    | ahead => rfl
    | astern => rfl
  have hopen (hlow : ¬idle < c.c) : (c.enterDwell load).InRange idle :=
    h.enterDwell (Nat.le_antisymm (Nat.le_of_not_lt hlow) h.idle_le) load
  unfold EngineChannel.gearStep
  cases hgear : c.gear with
  | dwell => exact h
  | neutral =>
    dsimp only
    split
    · exact h
    · rename_i hdir
      have hidle : ({ c with c := idle, a := 0 } : EngineChannel).InRange idle :=
        { h with
          idle_le := le_rfl
          setpoint_le := h.idle_le.trans h.setpoint_le
          remainder_le := Nat.zero_le _
          opened := fun _ => rfl }
      exact hidle.intoGear (by simp [hgear]) (hgearOf hdir) hdir
  | ahead | astern =>
    dsimp only
    split
    · exact h
    · split
      · exact h.intoGear (by simp [hgear]) rfl (by decide)
      · exact hopen ‹_›
  | slowing =>
    have hengaged : c.engaged ≠ .neutral := mt h.engaged.mp (by simp [hgear])
    dsimp only
    split
    · rename_i hdir
      exact h.intoGear (by simp [hgear]) (hgearOf (hdir ▸ hengaged)) hengaged
    · split
      · exact h
      · exact hopen ‹_›

end Gear

/-! ### The entry, the raw value and the cap in their ranges (R45, R48, R49, R53) -/

section Stages

variable (s : State) (e : Fin 4)

theorem State.engineEntry_idle_le : (s.engineEntry e).idle ≤ 1500 := by
  show max 300 (min 1500 _) ≤ 1500
  omega

theorem State.engineEntry_max_le : (s.engineEntry e).aheadMax ≤ 3000 ∧ (s.engineEntry e).asternMax ≤ 3000 := by
  have h := s.engineEntry_idle_le e
  constructor
  · show max (s.engineEntry e).idle (min 3000 _) ≤ 3000
    omega
  · show max (s.engineEntry e).idle (min 3000 _) ≤ 3000
    omega

/-- A point between two points of a curve is at most the greater of them (R49). -/
theorem between_points_le {p q r top : Nat} (hp : p ≤ top) (hq : q ≤ top) (hr : r ≤ 64) : p + (q - p) * r / 64 ≤ top := by
  have hpart : (q - p) * r / 64 ≤ q - p :=
    Nat.div_le_of_le_mul ((Nat.mul_le_mul_left _ hr).trans (Nat.mul_comm ..).le)
  omega

theorem State.rawValue_le (curve m : Nat) {lastRaw : Nat} (h : lastRaw ≤ 3000) :
    s.rawValue curve m lastRaw ≤ 3000 := by
  have hpoint (p : Nat) : s.curvePoint curve p ≤ 3000 := Nat.min_le_left _ _
  unfold State.rawValue State.curveRaw
  split
  · split
    · exact hpoint 16
    · exact between_points_le (hpoint _) (hpoint _) (Nat.mod_lt m (by decide)).le
  · exact h

theorem EngineChannel.capMax_le {s : State} {e : Fin 4} {c : EngineChannel} {top : Nat}
    (h : c.capMax (s.engineEntry e) = some top) : top ≤ 3000 := by
  obtain ⟨hahead, hastern⟩ := s.engineEntry_max_le e
  unfold EngineChannel.capMax at h
  split at h <;> cases h <;> assumption

/-- The cap of a channel lies between idle and 3000, and is idle in an open gear (R53). -/
theorem State.capFor_range (level : Nat) (c : EngineChannel) :
    (s.engineEntry e).idle ≤ (s.capFor e level c).getD (s.engineEntry e).idle ∧
    (s.capFor e level c).getD (s.engineEntry e).idle ≤ 3000 ∧
    (c.gear = .neutral ∨ c.gear = .dwell → (s.capFor e level c).getD (s.engineEntry e).idle = (s.engineEntry e).idle) := by
  have hidle := s.engineEntry_idle_le e
  rw [State.capFor_eq]
  cases htop : c.capMax (s.engineEntry e) with
  | none => exact ⟨le_rfl, hidle.trans (by decide), fun _ => rfl⟩
  | some top =>
    have hle := EngineChannel.capMax_le htop
    refine ⟨le_max_left _ _, ?_, fun hopen => ?_⟩
    · show max _ (min top _) ≤ 3000
      omega
    · rcases hopen with hg | hg <;> simp [EngineChannel.capMax, hg] at htop

/-- The fields that stages 2 to 6 store keep a channel in range when they are in range themselves. -/
theorem EngineChannel.InRange.store {c : EngineChannel} {idle raw cap target level detent : Nat} {n : Ramped}
    {dir : Direction} {fuel : Bool} (h : c.InRange idle) (hraw : raw ≤ 3000) (hcap : cap ≤ 3000)
    (hopen : c.gear = .neutral ∨ c.gear = .dwell → cap = idle) (htarget : idle ≤ target ∧ target ≤ cap)
    (hpos : (idle : Int) ≤ n.pos ∧ n.pos ≤ cap) (hrem : n.rem ≤ 999) :
    ({ c with
      c := n.pos.toNat, a := n.rem, ramp := n.dir, lastRaw := raw, lastTarget := target, lastCap := cap,
      lastD := level, lastDir := dir, lastDetent := detent, fuelCap := fuel } : EngineChannel).InRange idle :=
  { h with
    idle_le := by dsimp only; omega
    setpoint_le := by dsimp only; omega
    remainder_le := hrem
    raw_le := hraw
    idle_le_target := htarget.1
    target_le := htarget.2
    cap_le := hcap
    opened := fun hg => by
      have := hopen hg
      dsimp only
      omega }

/-- Stages 2 to 6 keep a channel in range: the stepping starts between idle and the cap and goes toward a target between
them (R53 to R57). -/
theorem EngineChannel.InRange.setpoint {c : EngineChannel} (h : c.InRange (s.engineEntry e).idle)
    (level elapsed : Nat) (lever : Int) (dir : Direction) :
    (s.setpoint e level elapsed lever dir c).InRange (s.engineEntry e).idle := by
  obtain ⟨hidle, htop, hopen⟩ := s.capFor_range e level c
  rw [State.setpoint_of_parts (raw := _) (target := _) (start := _) rfl rfl rfl rfl rfl]
  have htarget (running : Prop) [Decidable running] (raw : Nat) {cap : Nat} (hcap : (s.engineEntry e).idle ≤ cap) :
      let target := if running then max (s.engineEntry e).idle (min raw cap) else (s.engineEntry e).idle
      (s.engineEntry e).idle ≤ target ∧ target ≤ cap := by
    dsimp only
    split <;> omega
  refine h.store ?_ htop hopen (htarget _ _ hidle) ?_ (rampStep_rem_le _ _ _ _ _)
  · split
    · exact s.rawValue_le _ _ h.raw_le
    · exact h.raw_le
  · refine rampStep_within ?_ (by exact_mod_cast htarget _ _ hidle)
    have hstart := h.idle_le
    split
    · exact ⟨Int.ofNat_le.mpr hidle, le_rfl⟩
    · dsimp only
      omega

/-- The test of a group changes no field but the trim. -/
theorem EngineChannel.InRange.synced {c : EngineChannel} {idle : Nat} (h : c.InRange idle) (g : Nat) :
    (s.synced g e c).InRange idle := by
  unfold State.synced
  split
  · exact { h with }
  · exact h

/-- The output rpm lies between idle and the cap (R58). -/
theorem EngineChannel.InRange.paced {c : EngineChannel} {idle : Nat} (h : c.InRange idle) : (c.paced idle).Sound idle := by
  have hcap := h.idle_le_target.trans h.target_le
  have hout : idle ≤ c.outputRpm idle ∧ c.outputRpm idle ≤ c.lastCap := by
    unfold EngineChannel.outputRpm clampInt
    omega
  exact { h with idle_le_output := hout.1, output_le := hout.2 }

/-- A ramp-timer expiry makes a channel in range a sound one (R42). -/
theorem EngineChannel.InRange.expired {c : EngineChannel} (h : c.InRange (s.engineEntry e).idle) (p : State)
    (level elapsed : Nat) :
    (EngineChannel.paced (s.engineEntry e).idle (p.synced 2 e (p.synced 1 e (s.advanced level elapsed e c)))).Sound
      (s.engineEntry e).idle :=
  ((((h.gearStep _ _).setpoint s e _ _ _ _).synced p e 1).synced p e 2).paced

end Stages

end Sys2Proof.Machine
end

section
/-! PROOF. Every step keeps every engine channel in range (EveryStepKeepsChannels): commands that leave the channels and the
ENGINE words alone, the tables' changes, the events that change a channel, and the step. -/

namespace Sys2Proof.Machine

/-! ### The engine channels and the words they are measured by -/

/-- Every engine channel is sound (R44, R63). -/
def State.EnginesSound (s : State) : Prop :=
  ∀ (e : Fin 4) (c : EngineChannel), s.prop.channels[e] = some c → c.Sound (s.engineEntry e).idle

theorem State.channelsSound_iff (s : State) : s.channelsSound = true ↔ s.EnginesSound := by
  simp only [State.channelsSound, List.all_eq_true, List.mem_finRange, true_imp_iff, State.channelSound_iff]
  rfl

/-- What the soundness of the channels reads: the channels, and the words of the ENGINE table. -/
def State.engines (s : State) : Vector (Option EngineChannel) 4 × List Word :=
  (s.prop.channels, (s.table .engine).words)

theorem State.engines_congr {s t : State} (hp : t.prop = s.prop) (hm : t.mgmt = s.mgmt) : t.engines = s.engines := by
  unfold State.engines State.table
  rw [hp, hm]

theorem State.engineEntry_of_words {s t : State} (h : (t.table .engine).words = (s.table .engine).words) (e : Fin 4) :
    t.engineEntry e = s.engineEntry e := by
  unfold State.engineEntry State.entryWord Table.word
  rw [h]

theorem State.EnginesSound.of_engines {s t : State} (h : s.EnginesSound) (heq : t.engines = s.engines) :
    t.EnginesSound := by
  obtain ⟨hchannels, hwords⟩ := Prod.mk.inj heq
  intro e c hc
  rw [State.engineEntry_of_words hwords]
  exact h e c (hchannels ▸ hc)

theorem State.EnginesSound.of_none {s : State} (h : ∀ e : Fin 4, s.prop.channels[e] = none) : s.EnginesSound :=
  fun e c hc => absurd ((h e).symm.trans hc) (by simp)

/-- While ENGINE is being loaded there is no engine channel (R63, R184). -/
theorem State.no_channel_while_loading {s : State} (htables : s.tablesSound = true) (hrecords : s.recordsSound = true)
    (hload : s.mgmt.loadSlot = some .engine) (e : Fin 4) : s.prop.channels[e] = none := by
  have hloading : (s.table .engine).state = .loading := by
    simp only [State.tablesSound, Bool.and_eq_true, List.all_eq_true] at htables
    have htable := htables.1 .engine (by decide)
    simp only [State.tableSound, Bool.and_eq_true, decide_eq_true_eq] at htable
    exact htable.2.mp hload
  have hoff : s.engineEnabled e = false := by
    simp [State.engineEnabled, State.reaches, State.ready, hloading]
  simp only [State.recordsSound, Bool.and_eq_true, List.all_eq_true, beq_iff_eq] at hrecords
  have hsome := hrecords.1.1.1 e (List.mem_finRange e)
  simpa [hoff] using hsome

/-! ### Commands that leave them alone (R193) -/

section Answers

variable (s : State) (args : List Byte)

/-- Both answers of a command with required arguments leave the engines. -/
theorem State.needs_engines (n : Nat) {a : Answer} (h : a.state.engines = s.engines) :
    (s.needs n args a).state.engines = s.engines := by
  unfold State.needs
  split
  · rfl
  · exact h

@[simp] theorem State.storeParam_prop (p : Param) (v : Nat) : (s.storeParam p v).prop = s.prop := by
  unfold State.storeParam
  dsimp only
  split <;> simp

@[simp] theorem State.storeParam_mgmt (p : Param) (v : Nat) : (s.storeParam p v).mgmt = s.mgmt := by
  unfold State.storeParam
  dsimp only
  split <;> simp

@[simp] theorem State.zeroed_prop (c : Counter) : (s.zeroed c).prop = s.prop := by
  cases c <;> rfl

@[simp] theorem State.zeroed_mgmt (c : Counter) : (s.zeroed c).mgmt = s.mgmt := by
  cases c <;> rfl

/-- Every command but those that open, write and close a table leaves the channels and the ENGINE words. On each path of its
rule the two reading commands change a position alone, and the others leave both units. -/
theorem commandBody_engines {code : Nat} (hcode : code ∉ [0x01, 0x02, 0x03]) :
    (commandBody code args s).state.engines = s.engines := by
  have needs {n : Nat} {a : Answer} (h : a.state.prop = s.prop ∧ a.state.mgmt = s.mgmt) :=
    s.needs_engines args n (State.engines_congr h.1 h.2)
  unfold commandBody
  split
  case h_1 | h_2 | h_3 => exact absurd (by decide) hcode
  case h_4 =>
    refine s.needs_engines args _ ?_
    (repeat' split) <;> rfl
  case h_5 =>
    unfold State.tableRead
    dsimp only
    (repeat' split) <;> rfl
  case h_12 => exact State.engines_congr (by simp [State.snapCapture]) (by simp [State.snapCapture])
  case h_21 => rfl
  all_goals
    refine needs ?_
    (repeat' split) <;> simp

end Answers

/-! ### Tables opened, written and closed (R64, R82, R185 to R190) -/

section Keeping

variable {s : State}

theorem tableNum_eq_engine {t : TableId} : tableNum t = tableNum .engine ↔ t = .engine := by
  cases t <;> decide

/-- A table stored leaves the engines when it is not ENGINE, or has the same words. -/
theorem State.withTable_engines {t : TableId} {x : Table} (h : t = .engine → x.words = (s.table .engine).words) :
    (s.withTable t x).engines = s.engines := by
  refine Prod.ext rfl ?_
  show ((put s.mgmt.tables (tableNum t) x)[tableNum .engine]).words = _
  rw [put_get]
  split
  · exact h (tableNum_eq_engine.mp ‹_›)
  · rfl

theorem State.createChannels_enginesSound (s : State) : s.createChannels.EnginesSound := by
  intro e c hc
  have hnew : (if s.engineEnabled e then some (newChannel (s.engineEntry e).idle s.params.reversalDwell) else none) =
      some c := by
    rw [← hc]
    simp [State.createChannels]
  obtain ⟨-, hsome⟩ := Option.ite_none_right_eq_some.mp hnew
  rw [← Option.some.inj hsome]
  exact newChannel_sound ((s.engineEntry_idle_le e).trans (by decide)) _

/-- An open of ENGINE ends every channel, and one of another table leaves the engines (R82, R185). -/
theorem State.afterOpen_enginesSound (t : TableId) (h : t ≠ .engine → s.EnginesSound) : (s.afterOpen t).EnginesSound := by
  cases t with
  | engine => exact State.EnginesSound.of_none fun e => replicate_get _ e
  | _ => exact (h (by decide)).of_engines (State.engines_congr (by simp [State.afterOpen]) (by simp [State.afterOpen]))

theorem State.openTable_enginesSound (t : TableId) (n : Nat) (h : s.EnginesSound) : (s.openTable t n).EnginesSound := by
  unfold State.openTable
  exact State.afterOpen_enginesSound t fun ht =>
    h.of_engines (State.withTable_engines (s := s) (t := t) (x := loadingTable t n) fun he => absurd he ht)

theorem State.tableOpen_enginesSound (args : List Byte) (h : s.EnginesSound) :
    (s.tableOpen args).state.EnginesSound := by
  unfold State.tableOpen State.needs
  (repeat' split)
  case h_2.isFalse => exact State.openTable_enginesSound _ _ h
  all_goals exact h

theorem State.tableWrite_enginesSound (args : List Byte)
    (hload : s.mgmt.loadSlot = some .engine → ∀ e : Fin 4, s.prop.channels[e] = none) (h : s.EnginesSound) :
    (s.tableWrite args).state.EnginesSound := by
  have hwritten {t : TableId} (hslot : s.mgmt.loadSlot = some t) (x : Table) : (s.withTable t x).EnginesSound := by
    by_cases ht : t = .engine
    · exact State.EnginesSound.of_none (hload (ht ▸ hslot))
    · exact h.of_engines (State.withTable_engines fun h => absurd h ht)
  unfold State.tableWrite
  split
  · exact h
  · rename_i t hslot
    dsimp only
    (repeat' split)
    · exact h
    · exact h
    · exact hwritten hslot _

/-- The reading unit of a table that becomes READY: ENGINE brings sound channels, any other leaves the engines (R64). -/
theorem State.afterReady_enginesSound (t : TableId) (h : s.EnginesSound) : (s.afterReady t).EnginesSound := by
  cases t with
  | engine => exact s.createChannels_enginesSound
  | _ => exact h.of_engines (State.engines_congr (by simp [State.afterReady, State.createActuators])
      (by simp [State.afterReady, State.createActuators]))

theorem State.endLoad_engines (t : TableId) (st : TableState) (cause : Cause) :
    (s.endLoad t st cause).engines = s.engines :=
  State.withTable_engines (s := s) (t := t) (x := { s.table t with state := st, cause := cause }) fun h => by subst h; rfl

theorem State.tableClose_enginesSound (args : List Byte) (h : s.EnginesSound) :
    (s.tableClose args).state.EnginesSound := by
  have hended (t : TableId) (st : TableState) (cause : Cause) := h.of_engines (s.endLoad_engines t st cause)
  unfold State.tableClose State.needs
  (repeat' split)
  · exact h
  · exact h
  · exact State.afterReady_enginesSound _ (hended _ _ _)
  · exact hended _ _ _

theorem commandBody_enginesSound (code : Nat) (args : List Byte)
    (hload : s.mgmt.loadSlot = some .engine → ∀ e : Fin 4, s.prop.channels[e] = none) (h : s.EnginesSound) :
    (commandBody code args s).state.EnginesSound := by
  by_cases hcode : code ∈ [0x01, 0x02, 0x03]
  · simp only [List.mem_cons, List.not_mem_nil, or_false] at hcode
    rcases hcode with rfl | rfl | rfl
    · exact State.tableOpen_enginesSound args h
    · exact State.tableWrite_enginesSound args hload h
    · exact State.tableClose_enginesSound args h
  · exact h.of_engines (commandBody_engines s args hcode)

theorem State.managed_enginesSound (tag : Byte) {body : State → Answer} (hb : (body s).state.EnginesSound)
    (h : s.EnginesSound) : (s.managed tag body).EnginesSound := by
  unfold State.managed
  split
  · exact h
  · exact hb

/-! ### Events that change a channel (R42, R70, R72 to R76) -/

theorem State.EnginesSound.withChannel (h : s.EnginesSound) {e : Fin 4} {c : EngineChannel}
    (hc : c.Sound (s.engineEntry e).idle) : (s.withChannel e c).EnginesSound := by
  intro k d hd
  change (put s.prop.channels e (some c))[k] = some d at hd
  rw [put_get] at hd
  split at hd
  · rename_i hk
    subst hk
    exact Option.some.inj hd ▸ hc
  · exact h k d hd

theorem State.EnginesSound.onChannel (h : s.EnginesSound) (e : Fin 4) {f : EngineChannel → EngineChannel}
    (hf : ∀ idle (c : EngineChannel), c.Sound idle → (f c).Sound idle) : (s.onChannel e f).EnginesSound := by
  unfold State.onChannel
  split
  · exact h
  · rename_i c hc
    exact h.withChannel (hf _ c (h e c hc))

theorem State.EnginesSound.leversAccepted (h : s.EnginesSound) (which : Fin 4 → Bool) :
    (s.leversAccepted which).EnginesSound := by
  refine List.foldlRecOn _ _ h fun t ht e _ => ?_
  split
  · exact ht.onChannel e fun _ _ hc => { hc with }
  · exact ht

theorem State.trimStep_enginesSound (e : Fin 4) (h : s.EnginesSound) : (s.trimStep e).EnginesSound := by
  unfold State.trimStep
  dsimp only
  split
  · rename_i hc _ _
    split
    · exact h.withChannel { h e _ hc with }
    · exact h
  · exact h

theorem State.takeGovReport_enginesSound (ch : Nat) (data : List Byte) (h : s.EnginesSound) :
    (s.takeGovReport ch data).EnginesSound :=
  List.foldlRecOn _ _
    (List.foldlRecOn _ _ h fun _ ht e _ => ht.onChannel e fun _ _ hc => { hc with })
    fun _ ht e _ => State.trimStep_enginesSound e ht

/-- The channels after a ramp-timer expiry (R42). -/
theorem State.rampExpiry_engine (s : State) (e : Fin 4) : s.rampExpiry.prop.channels[e] =
    (s.prop.channels[e]).map fun c => EngineChannel.paced (s.engineEntry e).idle
      (s.passedOne.synced 2 e (s.passedOne.synced 1 e (s.advanced s.coup.level s.prop.rampTimer e c))) := by
  have hsynced : s.passedOne.synchronized.prop.channels[e] =
      (s.passedOne.prop.channels[e]).map fun c => s.passedOne.synced 2 e (s.passedOne.synced 1 e c) := remap_get _ _ e
  rw [State.rampExpiry_eq, foldl_field State.prop (fun t k => State.emit_prop _ t), State.tellEngaged_prop,
    State.pacedOn_channel, if_pos rfl, hsynced, State.passedOne_channel, Option.map_map, Option.map_map]
  rfl

theorem State.rampExpiry_enginesSound (h : s.EnginesSound) : s.rampExpiry.EnginesSound := by
  intro e c hc
  rw [State.rampExpiry_engine] at hc
  obtain ⟨d, hd, rfl⟩ := Option.map_eq_some_iff.mp hc
  rw [State.engineEntry_of_mgmt s.rampExpiry_mgmt]
  exact (h e d hd).toInRange.expired s e _ _ _

/-! ### Frames received (R26 to R36, R76) -/

theorem State.leverFrom_enginesSound (data : List Byte) (i : Fin 4) (h : s.EnginesSound) :
    (s.leverFrom data i).EnginesSound := by
  unfold State.leverFrom
  dsimp only
  split
  · refine State.EnginesSound.leversAccepted ?_ _
    exact h
  · exact h

theorem State.helmFrom_enginesSound (data : List Byte) (i : Fin 4) (h : s.EnginesSound) :
    (s.helmFrom data i).EnginesSound := by
  unfold State.helmFrom
  dsimp only
  split
  · exact h.of_engines (State.engines_congr (by simp) (by simp))
  · exact h

theorem State.takeFrom_enginesSound (data : List Byte) (i : Fin 4) (h : s.EnginesSound) :
    (s.takeFrom data i).EnginesSound := by
  rw [State.takeFrom_eq]
  split
  · refine State.EnginesSound.of_engines ?_ (State.engines_congr (State.raise_prop _ _ _) (State.raise_mgmt _ _ _))
    refine State.EnginesSound.leversAccepted ?_ fun _ => true
    exact h
  · exact h

theorem State.watchFrom_enginesSound (i : Fin 4) (h : s.EnginesSound) : (s.watchFrom i).EnginesSound := by
  unfold State.watchFrom
  split
  · exact h.of_engines (State.engines_congr (by simp) (by simp))
  · exact h

theorem State.stationFrame_enginesSound (k : StationKind) (ch : Nat) (data : List Byte) {handle : Fin 4 → State → State}
    (hh : ∀ i (t : State), t.EnginesSound → (handle i t).EnginesSound) (h : s.EnginesSound) :
    (s.stationFrame k ch data handle).EnginesSound := by
  unfold State.stationFrame
  dsimp only
  split
  · exact h
  · split
    · exact h
    · exact hh _ _ h

/-- A received frame keeps the channels sound when its unit does (R2, R4, R7). -/
theorem State.frameEvent_enginesSound (p : Port) (least : Nat) {unit : State → State} (f : Frame)
    (hu : (unit s).EnginesSound) (h : s.EnginesSound) : (s.frameEvent p least unit f).EnginesSound := by
  unfold State.frameEvent
  split
  · exact h
  · refine State.EnginesSound.of_engines ?_ (State.engines_congr (State.forward_prop _ _ _) (State.forward_mgmt _ _ _))
    split
    · exact h
    · exact hu

theorem State.requestRestart_engines (tag : Byte) (s : State) : (s.requestRestart tag).engines = s.engines := by
  unfold State.requestRestart
  (repeat' split) <;> rfl

theorem State.mgmtFrame_enginesSound (f : Frame)
    (hload : s.mgmt.loadSlot = some .engine → ∀ e : Fin 4, s.prop.channels[e] = none) (h : s.EnginesSound) :
    (s.mgmtFrame f).EnginesSound := by
  unfold State.mgmtFrame State.command
  split
  · exact h
  · split
    · exact h
    · split
      · exact h.of_engines (State.requestRestart_engines _ s)
      · exact State.managed_enginesSound _ (commandBody_enginesSound _ _ hload h) h

/-! ### Restarts and port events (R19, R20, R83, R199) -/

theorem State.transmitted_engines (p : Port) (s : State) : (s.transmitted p).engines = s.engines := by
  unfold State.transmitted State.replySent
  dsimp only
  (repeat' split) <;> rfl

theorem State.linkGone_engines (p : Port) (s : State) : (s.linkGone p).engines = s.engines := by
  unfold State.linkGone
  dsimp only
  (repeat' split) <;> rfl

/-- A warm restart brings new channels (R83). -/
theorem State.warm_enginesSound (straps : Straps) (s : State) : (s.warm straps).EnginesSound := by
  intro e c hc
  rw [State.warm_engine] at hc
  obtain ⟨-, hsome⟩ := Option.ite_none_right_eq_some.mp hc
  rw [← Option.some.inj hsome, State.engineEntry_restarted (s.warm_mgmt straps)]
  exact newChannel_sound ((s.engineEntry_idle_le e).trans (by decide)) _

/-! ### Frames received and the step -/

theorem State.received_enginesSound (p : Port) (f : Frame)
    (hload : s.mgmt.loadSlot = some .engine → ∀ e : Fin 4, s.prop.channels[e] = none) (h : s.EnginesSound) :
    (s.received p f).EnginesSound := by
  have station (k : StationKind) (least : Nat) {handle : Fin 4 → State → State}
      (hh : ∀ i (t : State), t.EnginesSound → (handle i t).EnginesSound) :
      (s.frameEvent p least (State.stationFrame k (channelOf f) f.data handle) f).EnginesSound :=
    State.frameEvent_enginesSound p least f (State.stationFrame_enginesSound k _ f.data hh h) h
  have other (least : Nat) {unit : State → State} (hu : (unit s).engines = s.engines) :
      (s.frameEvent p least unit f).EnginesSound :=
    State.frameEvent_enginesSound p least f (h.of_engines hu) h
  unfold State.received
  dsimp only
  split
  · exact station .lever 4 fun i _ => State.leverFrom_enginesSound _ i
  · exact station .helm 3 fun i _ => State.helmFrom_enginesSound _ i
  · exact station .take 2 fun i _ => State.takeFrom_enginesSound _ i
  · exact station .watch 1 fun i _ => State.watchFrom_enginesSound i
  · exact State.frameEvent_enginesSound p 3 f (State.takeGovReport_enginesSound _ _ h) h
  · exact other 2 (State.engines_congr (State.takeRudReport_prop p _ _ s) (State.takeRudReport_mgmt p _ _ s))
  · exact other 4 (State.engines_congr (State.takeCoupleReport_prop _ _ s) (State.takeCoupleReport_mgmt _ _ s))
  · exact other 4 (State.engines_congr (State.takeFlow_prop _ _ s) (State.takeFlow_mgmt _ _ s))
  · exact State.mgmtFrame_enginesSound f hload h
  · exact other 0 rfl

/-- The expiry of a dwell timer keeps a channel sound: a running one is in DWELL, where the setpoint is idle (R70). -/
theorem EngineChannel.Sound.dwellExpiry {idle : Nat} {c : EngineChannel} (h : c.Sound idle) :
    (if c.dwellTimer.isNone then c
      else if c.gear = .dwell then { c with gear := .neutral, dwellTimer := none }
      else { c with dwellTimer := none } : EngineChannel).Sound idle := by
  split
  · exact h
  · rename_i hruns
    have hgear : c.gear = .dwell := h.dwelling.mp (by simpa [Option.isSome_iff_ne_none] using hruns)
    rw [if_pos hgear]
    exact { h with
      engaged := by simp [h.engaged.mpr (.inr hgear)]
      opened := fun _ => h.opened (.inr hgear)
      dwelling := by simp }

theorem EngineChannel.Sound.hold {idle : Nat} {c : EngineChannel} (h : c.Sound idle) (load : Nat) :
    (c.hold load).Sound idle := by
  unfold EngineChannel.hold
  split
  · exact { h with }
  · exact { h with }

theorem EngineChannel.Sound.holdExpiry {idle : Nat} {c : EngineChannel} (h : c.Sound idle) :
    (if c.holdTimer.isNone then c else { c with fresh := .idled, holdTimer := none } : EngineChannel).Sound idle := by
  split
  · exact h
  · exact { h with }

/-- Every command keeps the engine channels sound. A management row is the command of its code. -/
theorem exec_enginesSound (c : Instr) {t : State}
    (hload : s.mgmt.loadSlot = some .engine → ∀ e : Fin 4, s.prop.channels[e] = none) (h : s.EnginesSound)
    (he : exec c s = .next t) : t.EnginesSound := by
  have held {u : State} (hu : u.EnginesSound) : (if s.restart.isSome then s else u).EnginesSound := by
    split
    · exact h
    · exact hu
  have same {u : State} (hp : u.prop = s.prop) (hm : u.mgmt = s.mgmt) : u.EnginesSound :=
    h.of_engines (State.engines_congr hp hm)
  have command (tag : Byte) (code : Nat) (args : List Byte) : (s.managed tag (commandBody code args)).EnginesSound :=
    State.managed_enginesSound tag (commandBody_enginesSound code args hload h) h
  have station (k : StationKind) (ch least kind : Nat) (data : List Byte) {handle : Fin 4 → State → State}
      (hh : ∀ i (u : State), u.EnginesSound → (handle i u).EnginesSound) :
      (s.frameEvent .w least (State.stationFrame k ch data handle) (frameOf kind ch data)).EnginesSound :=
    State.frameEvent_enginesSound .w least _ (State.stationFrame_enginesSound k ch data hh h) h
  have other (p : Port) (least : Nat) (f : Frame) {unit : State → State} (hu : (unit s).EnginesSound) :
      (s.frameEvent p least unit f).EnginesSound :=
    State.frameEvent_enginesSound p least f hu h
  cases c <;> obtain rfl := Host.Outcome.next.inj he
  case frameReceived p f => exact State.received_enginesSound p f hload h
  case transmitComplete p =>
    split
    · exact h
    · exact h.of_engines (State.transmitted_engines p s)
  case linkLost p => exact held (h.of_engines (State.linkGone_engines p s))
  case linkRestored p => exact held h
  case lever ch data => exact station .lever ch.toNat 4 5 data fun i _ => State.leverFrom_enginesSound data i
  case helm ch data => exact station .helm ch.toNat 3 6 data fun i _ => State.helmFrom_enginesSound data i
  case take ch data => exact station .take ch.toNat 2 10 data fun i _ => State.takeFrom_enginesSound data i
  case watch ch data => exact station .watch ch.toNat 1 13 data fun i _ => State.watchFrom_enginesSound i
  case govReport ch data => exact other .m 3 _ (State.takeGovReport_enginesSound _ data h)
  case rudReport p ch data =>
    split
    · exact other .w 0 _ h
    · exact other p 2 _ (same (State.takeRudReport_prop p _ data s) (State.takeRudReport_mgmt p _ data s))
  case coupleReport ch data =>
    exact other .t 4 _ (same (State.takeCoupleReport_prop _ data s) (State.takeCoupleReport_mgmt _ data s))
  case flow ch data => exact other .m 4 _ (same (State.takeFlow_prop _ data s) (State.takeFlow_mgmt _ data s))
  case tableOpen tag args => exact command tag 0x01 args
  case tableWrite tag args => exact command tag 0x02 args
  case tableClose tag args => exact command tag 0x03 args
  case tableReadSeek tag args => exact command tag 0x04 args
  case tableRead tag args => exact command tag 0x05 args
  case tableState tag args => exact command tag 0x06 args
  case setParam tag args => exact command tag 0x10 args
  case getParam tag args => exact command tag 0x11 args
  case recordRead tag args => exact command tag 0x20 args
  case counterRead tag args => exact command tag 0x21 args
  case noticeClear tag args => exact command tag 0x22 args
  case snapCapture tag args => exact command tag 0x30 args
  case snapRead tag args => exact command tag 0x31 args
  case bunker tag args => exact command tag 0x32 args
  case transfer tag args => exact command tag 0x33 args
  case coupleRelease tag args => exact command tag 0x40 args
  case coupleDetach tag args => exact command tag 0x41 args
  case coupleAttach tag args => exact command tag 0x42 args
  case pollNow tag args => exact command tag 0x43 args
  case actuatorReset tag args => exact command tag 0x50 args
  case restartCommand tag args => exact h.of_engines (State.requestRestart_engines tag s)
  case unknownCommand tag code args => exact State.managed_enginesSound tag h h
  case rampTimerExpiry => exact held (State.rampExpiry_enginesSound h)
  case dwellTimerExpiry e => exact held (h.onChannel e fun _ _ hc => hc.dwellExpiry)
  case freshnessTimerExpiry e =>
    refine held ?_
    split
    · exact h
    · rename_i d hd
      split
      · exact h
      · exact (h.withChannel ((h e d hd).hold _)).of_engines
          (State.engines_congr (State.raise_prop _ _ _) (State.raise_mgmt _ _ _))
  case holdTimerExpiry e => exact held (h.onChannel e fun _ _ hc => hc.holdExpiry)
  case steeringTimerExpiry => exact held (same s.steeringExpiry_prop s.steeringExpiry_mgmt)
  case helmTimerExpiry =>
    split
    · exact h
    · exact h
  case pollTimerExpiry => exact held (same s.pollExpiry_prop s.pollExpiry_mgmt)
  case releaseTimerExpiry =>
    split
    · exact h
    · split
      · exact h
      · exact same (State.failRelease_prop _ s) (State.failRelease_mgmt _ s)
  case powerOnReset => exact h
  case warmRestart => exact held h
  case endOfRestart straps =>
    split
    · exact h
    · exact State.EnginesSound.of_none fun e => replicate_get _ e
    · exact s.warm_enginesSound straps

end Keeping

/-- Settles O60: the step carries out the front command, and every command keeps the engine channels sound. -/
theorem everyStepKeepsChannels : Obligations.EveryStepKeepsChannels := by
  intro s t htables hrecords hs hstep
  rw [State.channelsSound_iff] at hs ⊢
  unfold step at hstep
  split at hstep
  · obtain rfl := Host.Outcome.next.inj hstep
    exact hs
  · rename_i c rest _
    exact exec_enginesSound c (s := { s with pending := rest }) (State.no_channel_while_loading htables hrecords) hs hstep

end Sys2Proof.Machine
end

section
/-! PROOF. The commands by the rules they come to: a property that the ports, the notices and the restart do not bear on holds
after every command when each rule of the units keeps it. -/

namespace Sys2Proof.Machine

/-- Two states that differ in the ports, the notices, the straps, the restart and the queue of commands at most. -/
structure State.SameUnits (s u : State) : Prop where
  station : u.station = s.station
  prop : u.prop = s.prop
  steer : u.steer = s.steer
  coup : u.coup = s.coup
  fuel : u.fuel = s.fuel
  mgmt : u.mgmt = s.mgmt
  params : u.params = s.params

/-- What each rule of the units makes of a state has a property that the ports, the notices and the restart do not bear on.
Each field but the first two is the rule of one command, or of all the management commands that are answered. -/
structure State.RulesGive (P : State → Prop) (s : State) : Prop where
  free : ∀ {t u : State}, t.SameUnits u → P t → P u
  idle : P s
  command : ∀ code args, P (commandBody code args s).state
  lever : ∀ ch data, P (s.stationFrame .lever ch data (State.leverFrom data))
  helm : ∀ ch data, P (s.stationFrame .helm ch data (State.helmFrom data))
  take : ∀ ch data, P (s.stationFrame .take ch data (State.takeFrom data))
  watch : ∀ ch data, P (s.stationFrame .watch ch data State.watchFrom)
  govReport : ∀ ch data, P (s.takeGovReport ch data)
  rudReport : ∀ p ch data, P (s.takeRudReport p ch data)
  coupleReport : ∀ ch data, P (s.takeCoupleReport ch data)
  flow : ∀ ch data, P (s.takeFlow ch data)
  ramp : P s.rampExpiry
  dwell : ∀ e t, execDwellTimerExpiry e s = .next t → P t
  freshness : ∀ e t, execFreshnessTimerExpiry e s = .next t → P t
  hold : ∀ e t, execHoldTimerExpiry e s = .next t → P t
  steering : P s.steeringExpiry
  helmTimer : ∀ t, execHelmTimerExpiry s = .next t → P t
  poll : P s.pollExpiry
  release : ∀ t, execReleaseTimerExpiry s = .next t → P t
  coldStart : ∀ straps, P (s.coldStart straps)
  warm : ∀ straps, P (s.warm straps)

theorem State.SameUnits.enterRestart (s : State) (k : RestartKind) : s.SameUnits (s.enterRestart k) :=
  ⟨rfl, rfl, rfl, rfl, rfl, rfl, rfl⟩

theorem State.SameUnits.offerLow (s : State) (p : Port) (c : LowClass) (f : Frame) : s.SameUnits (s.offerLow p c f) :=
  ⟨rfl, rfl, rfl, rfl, rfl, rfl, rfl⟩

theorem State.SameUnits.onPort (s : State) (p : Port) (f : PortUnit → PortUnit) : s.SameUnits (s.onPort p f) :=
  ⟨rfl, rfl, rfl, rfl, rfl, rfl, rfl⟩

theorem State.SameUnits.forward (s : State) (p : Port) (f : Frame) : s.SameUnits (s.forward p f) :=
  ⟨by simp, by simp, by simp, by simp, by simp, by simp, by simp⟩

theorem State.SameUnits.requestRestart (s : State) (tag : Byte) : s.SameUnits (s.requestRestart tag) := by
  unfold State.requestRestart
  (repeat' split) <;> exact ⟨rfl, rfl, rfl, rfl, rfl, rfl, rfl⟩

theorem State.SameUnits.transmitted (s : State) (p : Port) : s.SameUnits (s.transmitted p) := by
  unfold State.transmitted State.replySent
  dsimp only
  (repeat' split) <;> exact ⟨rfl, rfl, rfl, rfl, rfl, rfl, rfl⟩

theorem State.SameUnits.linkGone (s : State) (p : Port) : s.SameUnits (s.linkGone p) := by
  unfold State.linkGone
  dsimp only
  (repeat' split) <;> exact ⟨rfl, rfl, rfl, rfl, rfl, rfl, rfl⟩

namespace State.RulesGive

variable {P : State → Prop} {s : State} (h : s.RulesGive P)

include h

/-- A management command is its rule, then its REPLY (R193). -/
theorem managed (tag : Byte) {body : State → Answer} (hb : P (body s).state) : P (s.managed tag body) := by
  unfold State.managed
  split
  · exact h.idle
  · exact h.free (State.SameUnits.offerLow _ _ _ _) hb

/-- A received frame is the rule of its unit, then its forwarding (R2, R4, R7). -/
theorem frameEvent (p : Port) (least : Nat) {unit : State → State} (f : Frame) (hu : P (unit s)) :
    P (s.frameEvent p least unit f) := by
  unfold State.frameEvent
  split
  · exact h.idle
  · refine h.free (State.SameUnits.forward _ p f) ?_
    split
    · exact h.free (State.SameUnits.onPort s p _) h.idle
    · exact hu

/-- An MGMT frame is the command of its code (R4, R6). -/
theorem mgmtFrame (f : Frame) : P (s.mgmtFrame f) := by
  unfold State.mgmtFrame State.command
  split
  · exact h.idle
  · split
    · exact h.free (State.SameUnits.onPort s _ _) h.idle
    · split
      · exact h.free (State.SameUnits.requestRestart s _) h.idle
      · exact h.managed _ (h.command _ _)

/-- A frame received is the rule of its class (R2, R3). -/
theorem received (p : Port) (f : Frame) : P (s.received p f) := by
  unfold State.received
  dsimp only
  split
  · exact h.frameEvent p 4 f (h.lever _ _)
  · exact h.frameEvent p 3 f (h.helm _ _)
  · exact h.frameEvent p 2 f (h.take _ _)
  · exact h.frameEvent p 1 f (h.watch _ _)
  · exact h.frameEvent p 3 f (h.govReport _ _)
  · exact h.frameEvent p 2 f (h.rudReport p _ _)
  · exact h.frameEvent p 4 f (h.coupleReport _ _)
  · exact h.frameEvent p 4 f (h.flow _ _)
  · exact h.mgmtFrame f
  · exact h.frameEvent p 0 f h.idle

/-- Every command comes to one of the rules. A management row is the command of its code. -/
theorem exec (c : Instr) {t : State} (he : Machine.exec c s = .next t) : P t := by
  have held {u : State} (hu : P u) : P (if s.restart.isSome then s else u) := by
    split
    · exact h.idle
    · exact hu
  have command (tag : Byte) (code : Nat) (args : List Byte) : P (s.managed tag (commandBody code args)) :=
    h.managed tag (h.command code args)
  cases c
  case dwellTimerExpiry e => exact h.dwell e t he
  case freshnessTimerExpiry e => exact h.freshness e t he
  case holdTimerExpiry e => exact h.hold e t he
  case helmTimerExpiry => exact h.helmTimer t he
  case releaseTimerExpiry => exact h.release t he
  all_goals obtain rfl := Host.Outcome.next.inj he
  case frameReceived p f => exact h.received p f
  case transmitComplete p =>
    split
    · exact h.idle
    · exact h.free (State.SameUnits.transmitted s p) h.idle
  case linkLost p => exact held (h.free (State.SameUnits.linkGone s p) h.idle)
  case linkRestored p => exact held (h.free (State.SameUnits.onPort s p _) h.idle)
  case lever ch data => exact h.frameEvent .w 4 _ (h.lever _ data)
  case helm ch data => exact h.frameEvent .w 3 _ (h.helm _ data)
  case take ch data => exact h.frameEvent .w 2 _ (h.take _ data)
  case watch ch data => exact h.frameEvent .w 1 _ (h.watch _ data)
  case govReport ch data => exact h.frameEvent .m 3 _ (h.govReport _ data)
  case rudReport p ch data =>
    split
    · exact h.frameEvent .w 0 _ h.idle
    · exact h.frameEvent p 2 _ (h.rudReport p _ data)
  case coupleReport ch data => exact h.frameEvent .t 4 _ (h.coupleReport _ data)
  case flow ch data => exact h.frameEvent .m 4 _ (h.flow _ data)
  case tableOpen tag args => exact command tag 0x01 args
  case tableWrite tag args => exact command tag 0x02 args
  case tableClose tag args => exact command tag 0x03 args
  case tableReadSeek tag args => exact command tag 0x04 args
  case tableRead tag args => exact command tag 0x05 args
  case tableState tag args => exact command tag 0x06 args
  case setParam tag args => exact command tag 0x10 args
  case getParam tag args => exact command tag 0x11 args
  case recordRead tag args => exact command tag 0x20 args
  case counterRead tag args => exact command tag 0x21 args
  case noticeClear tag args => exact command tag 0x22 args
  case snapCapture tag args => exact command tag 0x30 args
  case snapRead tag args => exact command tag 0x31 args
  case bunker tag args => exact command tag 0x32 args
  case transfer tag args => exact command tag 0x33 args
  case coupleRelease tag args => exact command tag 0x40 args
  case coupleDetach tag args => exact command tag 0x41 args
  case coupleAttach tag args => exact command tag 0x42 args
  case pollNow tag args => exact command tag 0x43 args
  case actuatorReset tag args => exact command tag 0x50 args
  case restartCommand tag args => exact h.free (State.SameUnits.requestRestart s tag) h.idle
  case unknownCommand tag code args => exact h.managed tag h.idle
  case rampTimerExpiry => exact held h.ramp
  case steeringTimerExpiry => exact held h.steering
  case pollTimerExpiry => exact held h.poll
  case powerOnReset => exact h.free (State.SameUnits.enterRestart s .powerOn) h.idle
  case warmRestart => exact held (h.free (State.SameUnits.enterRestart s .warm) h.idle)
  case endOfRestart straps =>
    split
    · exact h.idle
    · exact h.coldStart straps
    · exact h.warm straps

end State.RulesGive

end Sys2Proof.Machine
end

section
/-! PROOF. Which records stand beside the tables (R63, R85, R108, R166), and the operations of the units that create and end
none of them. -/

namespace Sys2Proof.Machine

/-! ### Records that exist, and entries that ask for one -/

/-- Whether the unit that reads a table has a record at an index of it; only ENGINE, ACTUATOR, COUPLING and TANK bring
records (R63, R85, R108, R166). -/
def State.presence (s : State) : (t : TableId) → Fin (maxEntries t) → Bool
  | .engine => fun (e : Fin 4) => (s.prop.channels[e]).isSome
  | .actuator => fun (j : Fin 8) => (s.steer.actuators[j]).isSome
  | .coupling => fun (i : Fin 48) => (s.coup.records[i]).isSome
  | .tank => fun (t : Fin 8) => (s.fuel.tanks[t]).isSome
  | .station | .curve | .meter | .route => fun _ => false

/-- Whether the entry of a table at an index asks for a record: it lies within a READY table, and is enabled where an entry
can be (R63, R85, R108, R166). -/
def State.wanted (s : State) : (t : TableId) → Fin (maxEntries t) → Bool
  | .engine => s.engineEnabled
  | .actuator => s.actuatorEnabled
  | .coupling => s.couplingEnabled
  | .tank => fun (t : Fin 8) => s.reaches .tank t.val
  | .station | .curve | .meter | .route => fun _ => false

/-- A record exists exactly for the entries that ask for one. -/
def State.RecordsFit (s : State) : Prop := ∀ t, s.presence t = s.wanted t

theorem State.recordsSound_iff (s : State) : s.recordsSound = true ↔ s.RecordsFit := by
  simp only [State.recordsSound, Bool.and_eq_true, List.all_eq_true, List.mem_finRange, true_imp_iff, beq_iff_eq]
  constructor
  · rintro ⟨⟨⟨hengine, hactuator⟩, hcoupling⟩, htank⟩ t
    cases t with
    | engine => exact funext hengine
    | actuator => exact funext hactuator
    | coupling => exact funext hcoupling
    | tank => exact funext htank
    | _ => rfl
  · intro h
    exact ⟨⟨⟨congrFun (h .engine), congrFun (h .actuator)⟩, congrFun (h .coupling)⟩, congrFun (h .tank)⟩

section Reading

variable {s u : State}

/-- What exists is told record by record. -/
theorem State.presence_ext (hchannels : ∀ e : Fin 4, (u.prop.channels[e]).isSome = (s.prop.channels[e]).isSome)
    (hactuators : ∀ j : Fin 8, (u.steer.actuators[j]).isSome = (s.steer.actuators[j]).isSome)
    (hrecords : ∀ i : Fin 48, (u.coup.records[i]).isSome = (s.coup.records[i]).isSome)
    (htanks : ∀ t : Fin 8, (u.fuel.tanks[t]).isSome = (s.fuel.tanks[t]).isSome) : u.presence = s.presence := by
  funext t
  cases t with
  | engine => exact funext hchannels
  | actuator => exact funext hactuators
  | coupling => exact funext hrecords
  | tank => exact funext htanks
  | _ => rfl

/-- What exists is read from the four vectors of records alone. -/
theorem State.presence_congr (hchannels : u.prop.channels = s.prop.channels)
    (hactuators : u.steer.actuators = s.steer.actuators) (hrecords : u.coup.records = s.coup.records)
    (htanks : u.fuel.tanks = s.fuel.tanks) : u.presence = s.presence := by
  unfold State.presence
  rw [hchannels, hactuators, hrecords, htanks]

/-- The entries that ask for a record are read from their own table. -/
theorem State.wanted_congr {t : TableId} (h : u.table t = s.table t) : u.wanted t = s.wanted t := by
  have hreach : u.reaches t = s.reaches t := by
    funext i
    simp only [State.reaches, State.ready, h]
  have hword : u.entryWord t = s.entryWord t := by
    funext i k
    simp only [State.entryWord, h]
  cases t with
  | engine => funext e; simp only [State.wanted, State.engineEnabled, hreach, hword]
  | actuator => funext j; simp only [State.wanted, State.actuatorEnabled, hreach, hword]
  | coupling => funext i; simp only [State.wanted, State.couplingEnabled, hreach, hword]
  | tank => funext k; simp only [State.wanted, hreach]
  | _ => rfl

/-- A table that is not READY asks for no record. -/
theorem State.wanted_of_not_ready {t : TableId} (h : (s.table t).state ≠ .ready) : s.wanted t = fun _ => false := by
  have hreach (i : Nat) : s.reaches t i = false := by simp [State.reaches, State.ready, h]
  cases t with
  | engine => funext e; simp only [State.wanted, State.engineEnabled, hreach, Bool.false_and]
  | actuator => funext j; simp only [State.wanted, State.actuatorEnabled, hreach, Bool.false_and]
  | coupling => funext i; simp only [State.wanted, State.couplingEnabled, hreach, Bool.false_and]
  | tank => funext k; exact hreach k.val
  | _ => rfl

theorem State.presence_engine {e : Fin 4} {c : EngineChannel} (h : s.prop.channels[e] = some c) :
    s.presence .engine e = true := by
  simp only [State.presence, h, Option.isSome_some]

theorem State.presence_actuator {j : Fin 8} {a : Actuator} (h : s.steer.actuators[j] = some a) :
    s.presence .actuator j = true := by
  simp only [State.presence, h, Option.isSome_some]

theorem State.presence_coupling {i : Fin 48} {r : CouplingRecord} (h : s.coup.records[i] = some r) :
    s.presence .coupling i = true := by
  simp only [State.presence, h, Option.isSome_some]

theorem State.presence_tank {t : Fin 8} {r : TankRecord} (h : s.fuel.tanks[t] = some r) : s.presence .tank t = true := by
  simp only [State.presence, h, Option.isSome_some]

end Reading

/-! ### Records stored in place of records -/

/-- Storing a record where one stands leaves the same entries occupied. -/
theorem isSome_put {α : Type} {n : Nat} (v : Vector (Option α) n) (i : Fin n) (x : α) (h : (v[i]).isSome = true)
    (k : Fin n) : ((put v i (some x))[k]).isSome = (v[k]).isSome := by
  rw [put_get]
  split
  · rename_i hk
    exact hk ▸ h.symm
  · rfl

section Storing

variable {s : State}

@[simp] theorem State.withChannel_presence {e : Fin 4} (c : EngineChannel) (h : s.presence .engine e = true) :
    (s.withChannel e c).presence = s.presence :=
  State.presence_ext (isSome_put _ e c h) (fun _ => rfl) (fun _ => rfl) (fun _ => rfl)

@[simp] theorem State.withActuator_presence {j : Fin 8} (a : Actuator) (h : s.presence .actuator j = true) :
    (s.withActuator j a).presence = s.presence :=
  State.presence_ext (fun _ => rfl) (isSome_put _ j a h) (fun _ => rfl) (fun _ => rfl)

@[simp] theorem State.withCoupling_presence {i : Fin 48} (r : CouplingRecord) (h : s.presence .coupling i = true) :
    (s.withCoupling i r).presence = s.presence :=
  State.presence_ext (fun _ => rfl) (fun _ => rfl) (isSome_put _ i r h) (fun _ => rfl)

@[simp] theorem State.withTank_presence {t : Fin 8} (r : TankRecord) (h : s.presence .tank t = true) :
    (s.withTank t r).presence = s.presence :=
  State.presence_ext (fun _ => rfl) (fun _ => rfl) (fun _ => rfl) (isSome_put _ t r h)

end Storing

/-! ### Ports, notices and what touches no record -/

section Keeping

variable (s : State)

@[simp] theorem State.raise_presence (k : NoticeKind) (i : Nat) : (s.raise k i).presence = s.presence := rfl
@[simp] theorem State.offerLow_presence (p : Port) (c : LowClass) (f : Frame) :
    (s.offerLow p c f).presence = s.presence := rfl
@[simp] theorem State.offerUrgent_presence (p : Port) (f : Frame) : (s.offerUrgent p f).presence = s.presence := rfl
@[simp] theorem State.withdraw_presence (p : Port) (key : BitVec 11 × Option Byte) :
    (s.withdraw p key).presence = s.presence := rfl
@[simp] theorem State.stopRelease_presence : s.stopRelease.presence = s.presence := rfl
@[simp] theorem State.emptySlot_presence : s.emptySlot.presence = s.presence := rfl
@[simp] theorem State.withMeter_presence (i : Fin 8) (r : MeterRecord) : (s.withMeter i r).presence = s.presence := rfl
@[simp] theorem State.withSnapshot_presence (x : Option Snapshot) : (s.withSnapshot x).presence = s.presence := rfl
@[simp] theorem State.bookEngine_presence (x : MeterEntry) (v : Nat) : (s.bookEngine x v).presence = s.presence := rfl
@[simp] theorem State.bookUnassigned_presence (x : MeterEntry) (v : Nat) :
    (s.bookUnassigned x v).presence = s.presence := rfl

end Keeping

end Sys2Proof.Machine
end

section
/-! PROOF. The operations of the units that store records only where records stand: supervision, release, fuel, propulsion and
steering. -/

namespace Sys2Proof.Machine

/-! ### Supervision and release (chapters 5.6, 6 and 7) -/

section Supervision

variable (s : State)

@[simp] theorem State.gateActuator_presence (j : Fin 8) : (s.gateActuator j).presence = s.presence := by
  unfold State.gateActuator
  split
  · rfl
  · rename_i a ha
    have hstored (x : Actuator) := State.withActuator_presence x (State.presence_actuator ha)
    split_ifs <;> simp [hstored]

@[simp] theorem State.tellSteering_presence : s.tellSteering.presence = s.presence :=
  foldl_field State.presence (fun t j => t.gateActuator_presence j) _ s

@[simp] theorem State.applyDerate_presence : s.applyDerate.presence = s.presence := by
  unfold State.applyDerate
  split
  · rw [State.raise_presence]
    exact State.presence_congr rfl rfl rfl rfl
  · split
    · exact State.presence_congr rfl rfl rfl rfl
    · rfl

@[simp] theorem State.afterChange_presence : s.afterChange.presence = s.presence := by
  simp [State.afterChange]

section Stored

variable {s} {i : Fin 48} (r : CouplingRecord) (h : s.presence .coupling i = true)

include h

@[simp] theorem State.classified_presence : (s.classified i r).presence = s.presence := by
  unfold State.classified
  dsimp only
  split <;> simp [h]

@[simp] theorem State.parted_presence : (s.parted i r).presence = s.presence := by
  simp [State.parted, h]

@[simp] theorem State.completeRelease_presence : (s.completeRelease i r).presence = s.presence := by
  simp [State.completeRelease, h]

@[simp] theorem State.reclassified_presence : (s.reclassified i r).presence = s.presence := by
  unfold State.reclassified
  split
  · rfl
  · simp [h]

@[simp] theorem State.reportOpen_presence : (s.reportOpen i r).presence = s.presence := by
  unfold State.reportOpen
  split <;> simp [h]

@[simp] theorem State.acceptRelease_presence : (s.acceptRelease i r).presence = s.presence := by
  have hslot : ({ s with coup := { s.coup with slot := some i } } : State).presence = s.presence :=
    State.presence_congr rfl rfl rfl rfl
  unfold State.acceptRelease
  rw [State.afterChange_presence]
  exact (State.withCoupling_presence (s := { s with coup := { s.coup with slot := some i } }) { r with state := .releasing }
    (by rw [hslot, h])).trans hslot

end Stored

@[simp] theorem State.classifyLast_presence (i : Fin 48) : (s.classifyLast i).presence = s.presence := by
  unfold State.classifyLast
  split
  · rfl
  · rename_i r hr
    have h := State.presence_coupling hr
    split <;> simp [h]

@[simp] theorem State.abortRelease_presence (i : Fin 48) : (s.abortRelease i).presence = s.presence := by
  simp [State.abortRelease]

@[simp] theorem State.failRelease_presence (i : Fin 48) : (s.failRelease i).presence = s.presence := by
  simp [State.failRelease]

@[simp] theorem State.checkLock_presence (c : Interlock) : (s.checkLock c).presence = s.presence := by
  rcases s.checkLock_cases c with h | ⟨i, -, -, -, h⟩ <;> simp [h]

@[simp] theorem State.watchBow_presence (before : State) : (State.watchBow before s).presence = s.presence := by
  rcases State.watchBow_cases before s with h | h <;> simp [h]

@[simp] theorem State.reportEngaged_presence {i : Fin 48} (r : CouplingRecord) (h : s.presence .coupling i = true) :
    (s.reportEngaged i r).presence = s.presence := by
  unfold State.reportEngaged
  split <;> simp [h]

@[simp] theorem State.takeCoupleReport_presence (ch : Nat) (data : List Byte) :
    (s.takeCoupleReport ch data).presence = s.presence := by
  unfold State.takeCoupleReport State.reportCoupling
  split
  · rfl
  · split
    · rfl
    · rename_i r hr
      have h := State.presence_coupling hr
      dsimp only
      split <;> simp [h]

@[simp] theorem State.pollStep_presence : s.pollStep.presence = s.presence := by
  unfold State.pollStep
  split
  · rfl
  · exact State.presence_congr rfl rfl rfl rfl

@[simp] theorem State.raiseAges_presence : s.raiseAges.presence = s.presence :=
  State.presence_ext (fun _ => rfl) (fun _ => rfl) (fun i => by simp [State.raiseAges]) fun _ => rfl

@[simp] theorem State.staleStep_presence (i : Fin 48) : (s.staleStep i).presence = s.presence := by
  unfold State.staleStep
  split
  · rfl
  · rename_i r hr
    have h := State.presence_coupling hr
    split <;> simp [h]

@[simp] theorem State.ageStep_presence : s.ageStep.presence = s.presence :=
  (foldl_field State.presence State.staleStep_presence _ _).trans s.raiseAges_presence

@[simp] theorem State.holdStep_presence : s.holdStep.presence = s.presence := by
  unfold State.holdStep
  dsimp only
  split_ifs
  · rw [State.raise_presence]
    exact State.presence_congr rfl rfl rfl rfl
  · exact State.presence_congr rfl rfl rfl rfl
  · rfl

@[simp] theorem State.pollExpiry_presence : s.pollExpiry.presence = s.presence := by
  have htimer : ({ s with coup := { s.coup with pollTimer := s.params.pollInterval } } : State).presence = s.presence :=
    State.presence_congr rfl rfl rfl rfl
  unfold State.pollExpiry
  dsimp only
  split <;> simp [htimer]

end Supervision

/-! ### The fuel unit (chapters 8 and 9) -/

section Fuel

variable (s : State)

@[simp] theorem State.evaluated_presence {t : Fin 8} (r : TankRecord) (h : s.presence .tank t = true) :
    (s.evaluated t r).presence = s.presence := by
  unfold State.evaluated
  dsimp only
  split <;> simp [h]

@[simp] theorem State.debitTank_presence (t : Fin 8) (d : Nat) : (s.debitTank t d).presence = s.presence := by
  unfold State.debitTank
  split
  · rfl
  · rename_i r hr
    have h := State.presence_tank hr
    split_ifs <;> simp [h]

@[simp] theorem State.creditTank_presence (t : Fin 8) (c : Nat) : (s.creditTank t c).presence = s.presence := by
  unfold State.creditTank
  split
  · rfl
  · rename_i r hr
    have h := State.presence_tank hr
    split <;> simp [h]

@[simp] theorem State.bookStore_presence (x : MeterEntry) (v : Nat) : (s.bookStore x v).presence = s.presence := by
  unfold State.bookStore
  (repeat' split) <;> simp

@[simp] theorem State.checkRun_presence (x : MeterEntry) (v : Nat) : (s.checkRun x v).presence = s.presence := by
  unfold State.checkRun
  split <;> simp

@[simp] theorem State.takeFlow_presence (ch : Nat) (data : List Byte) : (s.takeFlow ch data).presence = s.presence := by
  unfold State.takeFlow State.meterFlow
  dsimp only
  (repeat' split) <;> simp

@[simp] theorem State.capture_presence (why : CaptureReason) : (s.capture why).presence = s.presence := by
  unfold State.capture
  dsimp only
  split <;> exact State.presence_congr rfl rfl rfl rfl

end Fuel

/-! ### The propulsion unit (chapters 3 and 4) -/

section Propulsion

variable (s : State)

@[simp] theorem State.onChannel_presence (e : Fin 4) (f : EngineChannel → EngineChannel) :
    (s.onChannel e f).presence = s.presence := by
  unfold State.onChannel
  split
  · rfl
  · rename_i c hc
    exact State.withChannel_presence _ (State.presence_engine hc)

@[simp] theorem State.leversAccepted_presence (which : Fin 4 → Bool) : (s.leversAccepted which).presence = s.presence := by
  refine foldl_field State.presence (fun t e => ?_) _ s
  split
  · exact t.onChannel_presence e _
  · rfl

@[simp] theorem State.zeroFlanking_presence (e : Fin 4) : (s.zeroFlanking e).presence = s.presence := by
  refine State.presence_ext (fun _ => rfl) (fun j => ?_) (fun _ => rfl) fun _ => rfl
  simp only [State.zeroFlanking, remap_get]
  cases s.steer.actuators[j] with
  | none => rfl
  | some a =>
    dsimp only
    split <;> rfl

@[simp] theorem State.gearMoved_presence (e : Fin 4) (was now : Gear) : (s.gearMoved e was now).presence = s.presence := by
  unfold State.gearMoved
  dsimp only
  split_ifs <;> simp

@[simp] theorem State.passOne_presence (level elapsed : Nat) (e : Fin 4) :
    (s.passOne level elapsed e).presence = s.presence := by
  unfold State.passOne
  split
  · rfl
  · rename_i c hc
    have h := State.presence_engine hc
    simp [h]

@[simp] theorem State.syncTest_presence (g : Nat) : (s.syncTest g).presence = s.presence := by
  rw [State.syncTest_eq]
  exact State.presence_ext (fun e => by simp [State.withChannels]) (fun _ => by simp [State.withChannels])
    (fun _ => by simp [State.withChannels]) fun _ => by simp [State.withChannels]

@[simp] theorem State.passThree_presence (e : Fin 4) : (s.passThree e).presence = s.presence := by
  unfold State.passThree
  split
  · rfl
  · rename_i c hc
    have h := State.presence_engine hc
    simp [h]

@[simp] theorem State.rampExpiry_presence : s.rampExpiry.presence = s.presence := by
  unfold State.rampExpiry
  dsimp only
  rw [foldl_field State.presence State.passThree_presence, State.syncTest_presence, State.syncTest_presence,
    foldl_field State.presence (State.passOne_presence · _ _)]
  exact State.presence_congr rfl rfl rfl rfl

@[simp] theorem State.trimStep_presence (e : Fin 4) : (s.trimStep e).presence = s.presence := by
  unfold State.trimStep
  dsimp only
  split
  · rename_i c _ _ _ _ hc _ _
    have h := State.presence_engine hc
    split <;> simp [h]
  · rfl

@[simp] theorem State.takeGovReport_presence (ch : Nat) (data : List Byte) :
    (s.takeGovReport ch data).presence = s.presence := by
  unfold State.takeGovReport
  dsimp only
  rw [foldl_field State.presence fun t e => t.trimStep_presence e,
    foldl_field State.presence fun t e => t.onChannel_presence e _]

end Propulsion

/-! ### The steering unit (chapter 5) -/

section Steering

variable (s : State)

@[simp] theorem State.steerActuator_presence (level elapsed : Nat) (j : Fin 8) :
    (s.steerActuator level elapsed j).presence = s.presence := by
  unfold State.steerActuator
  split
  · rfl
  · rename_i a ha
    have h := State.presence_actuator ha
    dsimp only
    split <;> simp [h]

@[simp] theorem State.steeringExpiry_presence : s.steeringExpiry.presence = s.presence :=
  (foldl_field State.presence (State.steerActuator_presence · _ _) _ _).trans (State.presence_congr rfl rfl rfl rfl)

@[simp] theorem State.reportTo_presence (v : Int) (j : Fin 8) : (s.reportTo v j).presence = s.presence := by
  unfold State.reportTo
  split
  · rfl
  · rename_i a ha
    have h := State.presence_actuator ha
    dsimp only
    (repeat' split) <;> simp [h]

@[simp] theorem State.takeRudReport_presence (p : Port) (ch : Nat) (data : List Byte) :
    (s.takeRudReport p ch data).presence = s.presence :=
  foldl_field State.presence (State.reportTo_presence · _) _ s

end Steering

/-! ### The station unit (chapter 2) -/

section Station

variable (s : State) (data : List Byte) (i : Fin 4)

theorem State.leverFrom_mgmt : (s.leverFrom data i).mgmt = s.mgmt := by
  unfold State.leverFrom
  dsimp only
  split <;> simp

theorem State.helmFrom_mgmt : (s.helmFrom data i).mgmt = s.mgmt := by
  unfold State.helmFrom
  dsimp only
  split <;> simp

theorem State.takeFrom_mgmt : (s.takeFrom data i).mgmt = s.mgmt := by
  rw [State.takeFrom_eq, State.grantTake]
  split <;> simp

theorem State.watchFrom_mgmt : (s.watchFrom i).mgmt = s.mgmt := by
  unfold State.watchFrom
  split <;> simp

theorem State.leverFrom_presence : (s.leverFrom data i).presence = s.presence := by
  unfold State.leverFrom
  dsimp only
  split
  · exact State.leversAccepted_presence _ _
  · rfl

theorem State.helmFrom_presence : (s.helmFrom data i).presence = s.presence := by
  unfold State.helmFrom
  dsimp only
  split
  · rw [State.checkLock_presence]
    exact State.presence_congr rfl rfl rfl rfl
  · rfl

theorem State.takeFrom_presence : (s.takeFrom data i).presence = s.presence := by
  rw [State.takeFrom_eq]
  split
  · refine (State.presence_congr rfl rfl rfl rfl).trans (State.leversAccepted_presence _ fun _ => true)
  · rfl

theorem State.watchFrom_presence : (s.watchFrom i).presence = s.presence := by
  unfold State.watchFrom
  split
  · exact s.capture_presence .watch
  · rfl

end Station

end Sys2Proof.Machine
end

section
/-! PROOF. What a command makes of the table memory and of the records beside it: the tables opened, written and closed (R183 to
R190), and the other management commands. -/

namespace Sys2Proof.Machine

/-! ### The tables and the load slot (R183 to R185) -/

/-- A table of id `t` fits its state, `held` being the table in the load slot (R183 to R185). -/
structure Table.Fits (t : TableId) (held : Option TableId) (x : Table) : Prop where
  count_le : x.count ≤ maxEntries t
  filled : x.words.length = x.count * wordsPerEntry t
  empty_iff : x.state = .empty ↔ x.count = 0
  cause_iff : x.cause = .none ↔ x.state ≠ .rejected
  held_iff : held = some t ↔ x.state = .loading

/-- Every table fits its state, and the write index lies within the table in the slot. -/
structure State.TablesFit (s : State) : Prop where
  each : ∀ t, (s.table t).Fits t s.mgmt.loadSlot
  within : ∀ t, s.mgmt.loadSlot = some t → s.mgmt.writeIndex ≤ (s.table t).extent

theorem State.tableSound_iff (s : State) (t : TableId) :
    s.tableSound t = true ↔ (s.table t).Fits t s.mgmt.loadSlot := by
  simp only [State.tableSound, Bool.and_eq_true, decide_eq_true_eq]
  constructor
  · rintro ⟨⟨⟨⟨hcount, hfilled⟩, hempty⟩, hcause⟩, hheld⟩
    exact ⟨hcount, hfilled, hempty, hcause, hheld⟩
  · rintro ⟨hcount, hfilled, hempty, hcause, hheld⟩
    exact ⟨⟨⟨⟨hcount, hfilled⟩, hempty⟩, hcause⟩, hheld⟩

theorem mem_tableIds (t : TableId) : t ∈ tableIds := by
  cases t <;> decide

theorem State.tablesSound_iff (s : State) : s.tablesSound = true ↔ s.TablesFit := by
  have hwithin : (match s.mgmt.loadSlot with
      | none => true
      | some t => decide (s.mgmt.writeIndex ≤ (s.table t).extent)) = true ↔
      ∀ t, s.mgmt.loadSlot = some t → s.mgmt.writeIndex ≤ (s.table t).extent := by
    cases s.mgmt.loadSlot <;> simp
  rw [State.tablesSound, Bool.and_eq_true, List.all_eq_true]
  constructor
  · rintro ⟨heach, hindex⟩
    exact ⟨fun t => (s.tableSound_iff t).mp (heach t (mem_tableIds t)), hwithin.mp hindex⟩
  · rintro ⟨heach, hindex⟩
    exact ⟨fun t _ => (s.tableSound_iff t).mpr (heach t), hwithin.mpr hindex⟩

/-- A table that is not the one in the slot before or after still fits. -/
theorem Table.Fits.other {t : TableId} {held held' : Option TableId} {x : Table} (h : x.Fits t held)
    (hheld : held' = some t ↔ held = some t) : x.Fits t held' :=
  { h with held_iff := hheld.trans h.held_iff }

theorem tableOfNum_tableNum (t : TableId) : tableOfNum (tableNum t).val = some t := by
  cases t <;> rfl

theorem tableNum_inj {t u : TableId} : tableNum t = tableNum u ↔ t = u := by
  refine ⟨fun h => Option.some.inj ?_, congrArg tableNum⟩
  rw [← tableOfNum_tableNum t, h, tableOfNum_tableNum]

/-- What the table memory reads after a table has been stored. -/
theorem State.withTable_table (t u : TableId) (x : Table) (s : State) :
    (s.withTable t x).table u = if t = u then x else s.table u := by
  show (put s.mgmt.tables (tableNum t) x)[tableNum u] = _
  rw [put_get]
  simp only [tableNum_inj, State.table]

/-! ### What a command maintains -/

/-- What is asked of a command: it keeps the tables in order, and with them the records. -/
structure State.Maintains (s u : State) : Prop where
  tables : s.TablesFit → u.TablesFit
  records : s.TablesFit → s.RecordsFit → u.RecordsFit

section Maintaining

variable {s u : State}

theorem State.Maintains.refl (s : State) : s.Maintains s := ⟨id, fun _ => id⟩

theorem State.table_of_mgmt (h : u.mgmt = s.mgmt) (t : TableId) : u.table t = s.table t := by
  rw [State.table, h, State.table]

/-- A command that leaves the table memory, and neither creates nor ends a record, maintains both. -/
theorem State.Maintains.of_same (hm : u.mgmt = s.mgmt) (hp : u.presence = s.presence) : s.Maintains u where
  tables h := by
    refine ⟨fun t => ?_, fun t => ?_⟩
    · rw [State.table_of_mgmt hm, hm]
      exact h.each t
    · rw [State.table_of_mgmt hm, hm]
      exact h.within t
  records _ h t := by
    rw [hp, State.wanted_congr (State.table_of_mgmt hm t)]
    exact h t

/-- One table is given other contents, and its unit the records it asks for then; the slot and the other tables fit. -/
theorem State.Maintains.of_replaced {t : TableId} (htable : ∀ v, v ≠ t → u.table v = s.table v)
    (hheld : ∀ v, v ≠ t → (u.mgmt.loadSlot = some v ↔ s.mgmt.loadSlot = some v))
    (hfits : s.TablesFit → (u.table t).Fits t u.mgmt.loadSlot)
    (hwithin : s.TablesFit → ∀ v, u.mgmt.loadSlot = some v → u.mgmt.writeIndex ≤ (u.table v).extent)
    (hpresence : s.TablesFit → s.RecordsFit → u.presence = Function.update s.presence t (u.wanted t)) :
    s.Maintains u where
  tables h := by
    refine ⟨fun v => ?_, hwithin h⟩
    by_cases hv : v = t
    · exact hv ▸ hfits h
    · rw [htable v hv]
      exact (h.each v).other (hheld v hv)
  records h hr v := by
    rw [hpresence h hr]
    by_cases hv : v = t
    · subst hv
      rw [Function.update_self]
    · rw [Function.update_of_ne hv, hr v, State.wanted_congr (htable v hv)]

/-- The unit that reads table `t` has other records, and the other units keep theirs. -/
theorem State.presence_update {t : TableId} {f : Fin (maxEntries t) → Bool} (hself : u.presence t = f)
    (hchannels : t ≠ .engine → ∀ e : Fin 4, (u.prop.channels[e]).isSome = (s.prop.channels[e]).isSome)
    (hactuators : t ≠ .actuator → ∀ j : Fin 8, (u.steer.actuators[j]).isSome = (s.steer.actuators[j]).isSome)
    (hrecords : t ≠ .coupling → ∀ i : Fin 48, (u.coup.records[i]).isSome = (s.coup.records[i]).isSome)
    (htanks : t ≠ .tank → ∀ k : Fin 8, (u.fuel.tanks[k]).isSome = (s.fuel.tanks[k]).isSome) :
    u.presence = Function.update s.presence t f := by
  refine Function.eq_update_iff.mpr ⟨hself, fun v hv => ?_⟩
  cases v with
  | engine => exact funext (hchannels hv.symm)
  | actuator => exact funext (hactuators hv.symm)
  | coupling => exact funext (hrecords hv.symm)
  | tank => exact funext (htanks hv.symm)
  | _ => rfl

end Maintaining

/-! ### Opening (R185) -/

/-- A table taken to LOADING fits its state (R184, R185). -/
theorem loadingTable_fits {t : TableId} {n : Nat} (hpos : 1 ≤ n) (hmax : n ≤ maxEntries t) :
    (loadingTable t n).Fits t (some t) where
  count_le := hmax
  filled := List.length_replicate
  empty_iff := by simp [loadingTable, Nat.ne_of_gt hpos]
  cause_iff := by simp [loadingTable]
  held_iff := by simp [loadingTable]

theorem State.afterOpen_mgmt (t : TableId) (s : State) : (s.afterOpen t).mgmt = s.mgmt := by
  cases t <;> simp [State.afterOpen]

/-- The records of the opened table cease (R82, R105, R129, R175). -/
theorem State.afterOpen_presence (t : TableId) (s : State) :
    (s.afterOpen t).presence = Function.update s.presence t fun _ => false := by
  have hnone {α : Type} {n : Nat} : (fun i : Fin n => ((Vector.replicate n (none : Option α))[i]).isSome) =
      fun _ => false := funext fun i => by rw [replicate_get]; rfl
  cases t with
  | engine => exact State.presence_update hnone (absurd rfl) (fun _ _ => rfl) (fun _ _ => rfl) fun _ _ => rfl
  | actuator => exact State.presence_update hnone (fun _ _ => rfl) (absurd rfl) (fun _ _ => rfl) fun _ _ => rfl
  | coupling =>
    rw [State.afterOpen, State.dropCouplings, State.tellSteering_presence]
    exact State.presence_update hnone (fun _ _ => rfl) (fun _ _ => rfl) (absurd rfl) fun _ _ => rfl
  | tank => exact State.presence_update hnone (fun _ _ => rfl) (fun _ _ => rfl) (fun _ _ => rfl) (absurd rfl)
  | _ => exact State.presence_update rfl (fun _ _ => rfl) (fun _ _ => rfl) (fun _ _ => rfl) fun _ _ => rfl

theorem clampNat_between {lo hi : Nat} (h : lo ≤ hi) (v : Nat) : lo ≤ clampNat lo hi v ∧ clampNat lo hi v ≤ hi := by
  unfold clampNat
  omega

theorem State.openTable_maintains {s : State} {t : TableId} {n : Nat} (hpos : 1 ≤ n) (hmax : n ≤ maxEntries t)
    (hslot : s.mgmt.loadSlot = none) : s.Maintains (s.openTable t n) := by
  have htable (v : TableId) : (s.openTable t n).table v = if t = v then loadingTable t n else s.table v :=
    (State.table_of_mgmt (State.afterOpen_mgmt t _) v).trans (State.withTable_table t v _ s)
  have hself : (s.openTable t n).table t = loadingTable t n := (htable t).trans (if_pos rfl)
  have hslot' : (s.openTable t n).mgmt.loadSlot = some t := by
    unfold State.openTable
    rw [State.afterOpen_mgmt]
  refine .of_replaced (t := t) (fun v hv => (htable v).trans (if_neg hv.symm)) (fun v hv => ?_) (fun _ => ?_)
    (fun _ v hv => ?_) fun _ _ => ?_
  · simp [hslot', hslot, hv.symm]
  · rw [hself, hslot']
    exact loadingTable_fits hpos hmax
  · unfold State.openTable
    rw [State.afterOpen_mgmt]
    exact Nat.zero_le _
  · rw [State.wanted_of_not_ready (by simp [hself, loadingTable])]
    exact State.afterOpen_presence t _

theorem State.tableOpen_maintains (args : List Byte) (s : State) : s.Maintains (s.tableOpen args).state := by
  have one_le_max (t : TableId) : 1 ≤ maxEntries t := by cases t <;> decide
  unfold State.tableOpen State.needs
  (repeat' split)
  case h_2.isFalse t _ _ hslot _ =>
    obtain ⟨hpos, hmax⟩ := clampNat_between (one_le_max t) (byteAt args 1)
    exact State.openTable_maintains hpos hmax hslot
  all_goals exact .refl s

/-! ### Writing (R187) -/

theorem storeWords_length {l new : List Word} {k : Nat} (h : k + new.length ≤ l.length) :
    (storeWords l k new).length = l.length := by
  simp [storeWords]
  omega

/-- The state after words have been stored in a table from the write index on (R187). -/
def State.written (t : TableId) (new : List Word) (s : State) : State :=
  let s1 := s.withTable t { s.table t with words := storeWords (s.table t).words s.mgmt.writeIndex new }
  { s1 with mgmt := { s1.mgmt with writeIndex := s.mgmt.writeIndex + new.length } }

/-- Words stored within the extent of the table in the slot maintain tables and records (R187). -/
theorem State.written_maintains {s : State} {t : TableId} {new : List Word} (hslot : s.mgmt.loadSlot = some t)
    (hroom : s.mgmt.writeIndex + new.length ≤ (s.table t).extent) : s.Maintains (s.written t new) := by
  have htable (v : TableId) : (s.written t new).table v = _ := State.withTable_table t v
    { s.table t with words := storeWords (s.table t).words s.mgmt.writeIndex new } s
  have hself := (htable t).trans (if_pos rfl)
  have hlength : (storeWords (s.table t).words s.mgmt.writeIndex new).length = (s.table t).words.length :=
    storeWords_length hroom
  refine .of_replaced (t := t) (fun v hv => (htable v).trans (if_neg hv.symm)) (fun v _ => Iff.rfl) (fun h => ?_)
    (fun _ v hv => ?_) fun h hr => ?_
  · rw [hself]
    exact { h.each t with filled := hlength.trans (h.each t).filled }
  · obtain rfl : t = v := Option.some.inj (hslot.symm.trans hv)
    rw [hself]
    exact hroom.trans hlength.ge
  · have hloading : (s.table t).state = .loading := (h.each t).held_iff.mp hslot
    have hnone : s.presence t = fun _ => false := (hr t).trans (State.wanted_of_not_ready (by simp [hloading]))
    rw [State.wanted_of_not_ready (by simp [hself, hloading]), ← hnone, Function.update_eq_self]
    rfl

theorem State.tableWrite_maintains (args : List Byte) (s : State) : s.Maintains (s.tableWrite args).state := by
  unfold State.tableWrite
  split
  · exact .refl s
  · rename_i t hslot
    dsimp only
    split_ifs with _ hroom
    · exact .refl s
    · exact .refl s
    · exact State.written_maintains hslot (Nat.not_lt.mp hroom)

/-! ### Closing (R188 to R190) -/

/-- The unit of a table that becomes READY has the records it asks for (R64, R105, R130, R175). -/
theorem State.afterReady_presence (t : TableId) (s : State) :
    (s.afterReady t).presence = Function.update s.presence t (s.wanted t) := by
  have hsome {α : Type} {n : Nat} (b : Fin n → Bool) (x : Fin n → α) (i : Fin n) :
      ((Vector.ofFn fun i => if b i then some (x i) else none)[i]).isSome = b i := by
    simp only [Fin.getElem_fin, Vector.getElem_ofFn]
    cases b i <;> rfl
  cases t with
  | engine => exact State.presence_update (funext (hsome _ _)) (absurd rfl) (fun _ _ => rfl) (fun _ _ => rfl) fun _ _ => rfl
  | actuator =>
    rw [State.afterReady, State.createActuators, State.tellSteering_presence]
    exact State.presence_update (funext (hsome _ _)) (fun _ _ => rfl) (absurd rfl) (fun _ _ => rfl) fun _ _ => rfl
  | coupling =>
    rw [State.afterReady, State.createCouplings, State.afterChange_presence]
    exact State.presence_update (funext (hsome s.couplingEnabled fun _ => newCoupling)) (fun _ _ => rfl)
      (fun _ _ => rfl) (absurd rfl) fun _ _ => rfl
  | tank =>
    rw [State.afterReady, State.createTanks_eq, foldl_field State.presence fun u _ => u.raise_presence _ _]
    exact State.presence_update (funext (hsome _ _)) (fun _ _ => rfl) (fun _ _ => rfl) (fun _ _ => rfl) (absurd rfl)
  | _ => exact State.presence_update rfl (fun _ _ => rfl) (fun _ _ => rfl) (fun _ _ => rfl) fun _ _ => rfl

theorem State.afterReady_mgmt (t : TableId) (s : State) : (s.afterReady t).mgmt = s.mgmt := by
  cases t <;> simp [State.afterReady, State.createActuators]

theorem State.endLoad_table (t v : TableId) (st : TableState) (cause : Cause) (s : State) :
    (s.endLoad t st cause).table v = if t = v then { s.table t with state := st, cause := cause } else s.table v :=
  State.withTable_table t v _ s

/-- The end of a load, in a state and cause that go together, with the records of the state its table ends in (R190). -/
theorem State.Maintains.of_endLoad {s u : State} {t : TableId} {st : TableState} {cause : Cause}
    (hslot : s.mgmt.loadSlot = some t) (hcause : cause = .none ↔ st ≠ .rejected) (hst : st ≠ .empty ∧ st ≠ .loading)
    (hmgmt : u.mgmt = (s.endLoad t st cause).mgmt)
    (hpresence : s.TablesFit → s.RecordsFit → u.presence = Function.update s.presence t (u.wanted t)) :
    s.Maintains u := by
  have htable (v : TableId) := (State.table_of_mgmt hmgmt v).trans (s.endLoad_table t v st cause)
  have hself := (htable t).trans (if_pos rfl)
  have hempty : u.mgmt.loadSlot = none := congrArg TableUnit.loadSlot hmgmt
  refine .of_replaced (t := t) (fun v hv => (htable v).trans (if_neg hv.symm)) (fun v hv => ?_) (fun h => ?_)
    (fun _ v hv => absurd (hempty.symm.trans hv) (by simp)) hpresence
  · simp [hempty, hslot, hv.symm]
  · have hloading : (s.table t).state = .loading := (h.each t).held_iff.mp hslot
    have hcount : (s.table t).count ≠ 0 := fun h0 => by simpa [hloading] using (h.each t).empty_iff.mpr h0
    rw [hself, hempty]
    exact { h.each t with
      empty_iff := by simp [hst.1, hcount]
      cause_iff := hcause
      held_iff := by simp [hst.2] }

/-- A close that fails names a cause (R188). -/
theorem State.closeCheck_cause {s : State} {t : TableId} {check detail : Nat} {cause : Cause}
    (h : s.closeCheck t check = some (cause, detail)) : cause ≠ .none := by
  rintro rfl
  unfold State.closeCheck at h
  dsimp only at h
  split_ifs at h
  · cases h
  · cases h
  · simp at h

theorem State.tableClose_maintains (args : List Byte) (s : State) : s.Maintains (s.tableClose args).state := by
  unfold State.tableClose State.needs
  (repeat' split)
  · exact .refl s
  · exact .refl s
  · rename_i t hslot _ _
    refine .of_endLoad hslot (by simp) (by simp) (State.afterReady_mgmt t _) fun _ _ => ?_
    rw [State.says_state, State.wanted_congr (State.table_of_mgmt (State.afterReady_mgmt t _) t)]
    exact State.afterReady_presence t _
  · rename_i t hslot _ cause detail hcheck
    refine .of_endLoad (st := .rejected) (cause := cause) hslot (by simp [State.closeCheck_cause hcheck]) (by simp) rfl
      fun h hr => ?_
    rw [State.says_state, State.raise_presence, State.wanted_congr (State.table_of_mgmt (State.raise_mgmt _ _ _) t)]
    have hloading : (s.table t).state = .loading := (h.each t).held_iff.mp hslot
    have hrejected : ((s.endLoad t .rejected cause).table t).state = .rejected := by
      rw [State.endLoad_table, if_pos rfl]
    have hnone : s.presence t = fun _ => false := (hr t).trans (State.wanted_of_not_ready (by simp [hloading]))
    rw [State.wanted_of_not_ready (ne_of_eq_of_ne hrejected (by decide)), ← hnone, Function.update_eq_self]
    rfl

/-! ### The other commands (R193) -/

section Answers

variable (s : State) (args : List Byte)

theorem State.needs_maintains (n : Nat) {a : Answer} (h : s.Maintains a.state) : s.Maintains (s.needs n args a).state := by
  unfold State.needs
  split
  · exact .refl s
  · exact h

@[simp] theorem State.storeParam_presence (p : Param) (v : Nat) : (s.storeParam p v).presence = s.presence := by
  unfold State.storeParam
  dsimp only
  split
  · exact State.checkLock_presence _ _
  · rfl

@[simp] theorem State.zeroed_presence (c : Counter) : (s.zeroed c).presence = s.presence := by
  cases c <;> rfl

theorem State.couplingNamed_record {v : Nat} {i : Fin 48} {r : CouplingRecord} (h : s.couplingNamed v = some (i, r)) :
    s.presence .coupling i = true := by
  unfold State.couplingNamed at h
  split at h
  · cases h
  · obtain ⟨d, hd, heq⟩ := Option.map_eq_some_iff.mp h
    obtain ⟨rfl, rfl⟩ := Prod.mk.inj heq
    exact State.presence_coupling hd

/-- Every command maintains tables and records: the three that load a table by the sections above; the two that read one move
a position alone; the others leave the table memory and store records only where records stand. -/
theorem commandBody_maintains (code : Nat) : s.Maintains (commandBody code args s).state := by
  have needs {n : Nat} {a : Answer} (h : a.state.mgmt = s.mgmt ∧ a.state.presence = s.presence) :=
    s.needs_maintains args n (.of_same h.1 h.2)
  unfold commandBody
  split
  case h_1 => exact State.tableOpen_maintains args s
  case h_2 => exact State.tableWrite_maintains args s
  case h_3 => exact State.tableClose_maintains args s
  case h_4 =>
    refine s.needs_maintains args _ ?_
    (repeat' split)
    · exact .refl s
    · exact .refl s
    · exact ⟨fun h => ⟨h.each, h.within⟩, fun _ h => h⟩
  case h_5 =>
    unfold State.tableRead
    dsimp only
    (repeat' split)
    · exact .refl s
    · exact .refl s
    · exact ⟨fun h => ⟨h.each, h.within⟩, fun _ h => h⟩
  case h_12 => exact .of_same (by simp [State.snapCapture]) (by simp [State.snapCapture])
  case h_16 | h_17 | h_18 =>
    refine needs ?_
    split
    · exact ⟨rfl, rfl⟩
    · rename_i i r hr
      have h := s.couplingNamed_record hr
      (repeat' split) <;> simp [h]
  case h_20 =>
    refine needs ?_
    split
    · exact ⟨rfl, rfl⟩
    · split
      · exact ⟨rfl, rfl⟩
      · rename_i a ha
        split <;> simp [State.presence_actuator ha]
  case h_11 =>
    unfold State.noticeClear
    refine needs ?_
    rw [State.says_state]
    exact ⟨rfl, State.presence_congr rfl rfl rfl rfl⟩
  case h_21 => exact .refl s
  all_goals
    refine needs ?_
    (repeat' split) <;> simp

end Answers

end Sys2Proof.Machine
end

section
/-! PROOF. Every step keeps the tables and their records sound (EveryStepKeepsTablesAndRecords): the two restarts, every rule
of the units, and the step. -/

namespace Sys2Proof.Machine

/-! ### Restarts (R198, R199) -/

/-- After a power-on reset every table is EMPTY and no record exists. -/
theorem State.poweredOn_maintains (s : State) (straps : Straps) (pending : List Instr) :
    s.Maintains (State.poweredOn straps pending) := by
  have hblank (t : TableId) : (State.poweredOn straps pending).table t = Table.blank := replicate_get _ (tableNum t)
  refine ⟨fun _ => ⟨fun t => ?_, fun t ht => absurd ht (by simp [State.poweredOn])⟩, fun _ _ t => ?_⟩
  · rw [hblank]
    exact ⟨Nat.zero_le _, by simp [Table.blank], by simp [Table.blank], by simp [Table.blank],
      by simp [Table.blank, State.poweredOn]⟩
  · rw [State.wanted_of_not_ready (by simp [hblank, Table.blank])]
    have hnone {α : Type} {n : Nat} (i : Fin n) : ((Vector.replicate n (none : Option α))[i]).isSome = false :=
      congrArg Option.isSome (replicate_get none i)
    cases t with
    | engine => exact funext fun (e : Fin 4) => hnone e
    | actuator => exact funext fun (j : Fin 8) => hnone j
    | coupling => exact funext fun (i : Fin 48) => hnone i
    | tank => exact funext fun (k : Fin 8) => hnone k
    | _ => rfl

/-- A table that fits still fits after a warm restart, where none is in the slot (R199). -/
theorem Table.Fits.restarted {t : TableId} {held : Option TableId} {x : Table} (h : x.Fits t held) :
    x.restarted.Fits t none := by
  unfold Table.restarted
  split
  · rename_i hloading
    exact { h with
      empty_iff := by simpa [hloading] using h.empty_iff
      cause_iff := by simp
      held_iff := by simp }
  · rename_i hloading
    exact { h with held_iff := by simp [hloading] }

theorem State.wanted_restarted {s b : State} (hb : b.mgmt = s.mgmt.restarted) : b.wanted = s.wanted := by
  have hreach (t : TableId) (i : Nat) := State.reaches_restarted hb t i
  have hword := State.entryWord_restarted hb
  funext t
  cases t with
  | engine => exact funext fun (e : Fin 4) => State.engineEnabled_restarted hb e
  | actuator => funext j; simp only [State.wanted, State.actuatorEnabled, hreach, hword]
  | coupling => funext i; simp only [State.wanted, State.couplingEnabled, hreach, hword]
  | tank => exact funext fun (k : Fin 8) => hreach .tank k.val
  | _ => rfl

/-- A warm restart brings new engine channels, and keeps the actuators, couplings and tanks of READY tables (R83, R106, R132,
R175). -/
theorem State.warm_presence {s : State} (h : s.RecordsFit) (straps : Straps) : (s.warm straps).presence = s.presence := by
  have hoff {t : TableId} (ht : s.ready t = false) : s.presence t = fun _ => false :=
    (h t).trans (State.wanted_of_not_ready (by simpa [State.ready] using ht))
  refine State.presence_ext (fun e => ?_) (fun j => ?_) (fun i => ?_) fun k => ?_
  · have hengine : (s.prop.channels[e]).isSome = s.engineEnabled e := congrFun (h .engine) e
    rw [State.warm_engine, hengine]
    cases s.engineEnabled e <;> rfl
  · rw [State.warm_actuator]
    split
    · exact Option.isSome_map
    · rename_i hready
      exact (congrFun (hoff (t := .actuator) (by simpa using hready)) j).symm
  · cases hready : s.ready .coupling with
    | true =>
      obtain ⟨-, -, -, hrecords⟩ := s.warm_coup_ready straps hready
      rw [hrecords]
      exact Option.isSome_map
    | false =>
      obtain ⟨hrecords, -⟩ := s.warm_coup_not_ready straps hready
      rw [hrecords]
      exact (congrFun (hoff hready) i).symm
  · rw [State.warm_fuel]
    rfl

theorem State.warm_maintains (straps : Straps) (s : State) : s.Maintains (s.warm straps) where
  tables h := by
    refine ⟨fun t => ?_, fun t ht => ?_⟩
    · rw [State.table_restarted (s.warm_mgmt straps), State.warm_mgmt]
      exact (h.each t).restarted
    · rw [State.warm_mgmt] at ht
      cases ht
  records _ h t := by
    rw [State.warm_presence h, State.wanted_restarted (s.warm_mgmt straps)]
    exact h t

/-! ### The step -/

theorem State.stationFrame_maintains (k : StationKind) (ch : Nat) (data : List Byte) {handle : Fin 4 → State → State}
    (hm : ∀ i (t : State), (handle i t).mgmt = t.mgmt) (hp : ∀ i (t : State), (handle i t).presence = t.presence)
    (s : State) : s.Maintains (s.stationFrame k ch data handle) := by
  unfold State.stationFrame
  dsimp only
  split
  · exact .refl s
  · split
    · exact .of_same rfl rfl
    · exact .of_same (hm _ _) (hp _ _)

/-- Every rule of the units maintains tables and records. -/
theorem State.rulesGive_maintains (s : State) : s.RulesGive s.Maintains where
  free h hm :=
    have hsame := State.Maintains.of_same h.mgmt (State.presence_congr (congrArg _ h.prop) (congrArg _ h.steer)
      (congrArg _ h.coup) (congrArg _ h.fuel))
    ⟨fun ht => hsame.tables (hm.tables ht), fun ht hr => hsame.records (hm.tables ht) (hm.records ht hr)⟩
  idle := .refl s
  command code args := commandBody_maintains s args code
  lever ch data := State.stationFrame_maintains .lever ch data (fun i t => t.leverFrom_mgmt data i)
    (fun i t => t.leverFrom_presence data i) s
  helm ch data := State.stationFrame_maintains .helm ch data (fun i t => t.helmFrom_mgmt data i)
    (fun i t => t.helmFrom_presence data i) s
  take ch data := State.stationFrame_maintains .take ch data (fun i t => t.takeFrom_mgmt data i)
    (fun i t => t.takeFrom_presence data i) s
  watch ch data := State.stationFrame_maintains .watch ch data (fun i t => t.watchFrom_mgmt i)
    (fun i t => t.watchFrom_presence i) s
  govReport ch data := .of_same (State.takeGovReport_mgmt ch data s) (s.takeGovReport_presence ch data)
  rudReport p ch data := .of_same (State.takeRudReport_mgmt p ch data s) (s.takeRudReport_presence p ch data)
  coupleReport ch data := .of_same (State.takeCoupleReport_mgmt ch data s) (s.takeCoupleReport_presence ch data)
  flow ch data := .of_same (State.takeFlow_mgmt ch data s) (s.takeFlow_presence ch data)
  ramp := .of_same s.rampExpiry_mgmt s.rampExpiry_presence
  dwell e t ht := by
    obtain rfl := Host.Outcome.next.inj ht
    split
    · exact .refl s
    · exact .of_same (State.onChannel_mgmt e _ s) (s.onChannel_presence e _)
  freshness e t ht := by
    obtain rfl := Host.Outcome.next.inj ht
    split
    · exact .refl s
    · split
      · exact .refl s
      · rename_i c hc
        split
        · exact .refl s
        · exact .of_same rfl (State.withChannel_presence _ (State.presence_engine hc))
  hold e t ht := by
    obtain rfl := Host.Outcome.next.inj ht
    split
    · exact .refl s
    · exact .of_same (State.onChannel_mgmt e _ s) (s.onChannel_presence e _)
  steering := .of_same s.steeringExpiry_mgmt s.steeringExpiry_presence
  helmTimer t ht := by
    obtain rfl := Host.Outcome.next.inj ht
    split
    · exact .refl s
    · exact .of_same rfl (State.presence_congr rfl rfl rfl rfl)
  poll := .of_same s.pollExpiry_mgmt s.pollExpiry_presence
  release t ht := by
    obtain rfl := Host.Outcome.next.inj ht
    split
    · exact .refl s
    · split
      · exact .of_same rfl s.stopRelease_presence
      · exact .of_same (State.failRelease_mgmt _ s) (s.failRelease_presence _)
  coldStart straps := s.poweredOn_maintains straps s.pending
  warm straps := State.warm_maintains straps s

/-- A step maintains tables and records: it idles, or carries out the front command. -/
theorem step_maintains {s t : State} (h : step s = .next t) : s.Maintains t := by
  unfold step at h
  split at h
  · obtain rfl := Host.Outcome.next.inj h
    exact .refl s
  · rename_i c rest _
    have hm := (State.rulesGive_maintains { s with pending := rest }).exec c h
    exact ⟨fun ht => hm.tables ⟨ht.each, ht.within⟩, fun ht hr => hm.records ⟨ht.each, ht.within⟩ hr⟩

/-- Settles O56. -/
theorem everyStepKeepsTablesAndRecords : Obligations.EveryStepKeepsTablesAndRecords := by
  refine ⟨fun s t htables hstep => ?_, fun s t htables hrecords hstep => ?_⟩
  · rw [State.tablesSound_iff] at htables ⊢
    exact (step_maintains hstep).tables htables
  · rw [State.tablesSound_iff] at htables
    rw [State.recordsSound_iff] at hrecords ⊢
    exact (step_maintains hstep).records htables hrecords

end Sys2Proof.Machine
end

section
/-! PROOF. The gear step by the rows of R66 to R68, and the expiries of the channel timers and the helm timer (R70, R73, R74,
R96). -/

namespace Sys2Proof.Machine

/-! ### The gear step (R65 to R69) -/

section Gear

variable (idle load : Nat) (dir : Direction) (c : EngineChannel)

@[simp] theorem EngineChannel.enterDwell_engaged : (c.enterDwell load).engaged = .neutral := by
  unfold EngineChannel.enterDwell
  split <;> rfl

/-- A channel in gear, or slowing out of it, keeps its engaged direction in a gear step or opens its gear (R65). -/
theorem EngineChannel.gearStep_engaged (hgear : c.gear = gearOf c.engaged ∨ c.gear = .slowing)
    (hengaged : c.engaged ≠ .neutral) : (c.gearStep idle load dir).engaged = c.engaged ∨
      (c.gearStep idle load dir).engaged = .neutral := by
  unfold EngineChannel.gearStep
  cases hg : c.gear with
  | neutral => cases he : c.engaged <;> simp_all [gearOf]
  | dwell => exact .inl rfl
  | ahead =>
    have hahead : c.engaged = .ahead := by cases he : c.engaged <;> simp_all [gearOf]
    dsimp only
    split_ifs
    · exact .inl rfl
    · exact .inl hahead.symm
    · exact .inr (c.enterDwell_engaged load)
  | astern =>
    have hastern : c.engaged = .astern := by cases he : c.engaged <;> simp_all [gearOf]
    dsimp only
    split_ifs
    · exact .inl rfl
    · exact .inl hastern.symm
    · exact .inr (c.enterDwell_engaged load)
  | slowing =>
    dsimp only
    split_ifs
    · exact .inl rfl
    · exact .inl rfl
    · exact .inr (c.enterDwell_engaged load)

end Gear

/-- Settles O52: each row is the branch of the gear step for its gear state, and `gearStep_engaged` rules out a reversal. -/
theorem gearStepNeverReversesAtOnce : Obligations.GearStepNeverReversesAtOnce := by
  intro idle dwell dir c n opened
  have hn : n = c.gearStep idle dwell dir := rfl
  have hopened : c.enterDwell dwell = opened := rfl
  rw [EngineChannel.gearStep, hopened] at hn
  refine ⟨fun hg => ?_, fun hg => ?_, fun hg => ?_, fun hg => ?_, fun hg => ?_, fun he hg => ?_, fun he hg => ?_⟩
  · rw [hn, hg]
  · rw [hn, hg]
    cases dir <;> rfl
  · rw [hn, hg]
  · rw [hn, hg]
  · rw [hn, hg]
    cases dir <;> rfl
  · rcases c.gearStep_engaged idle dwell dir (he ▸ hg) (by simp [he]) with h | h <;> simp [n, h, he]
  · rcases c.gearStep_engaged idle dwell dir (he ▸ hg) (by simp [he]) with h | h <;> simp [n, h, he]

/-! ### The channel timers and the helm timer (R70, R73, R74, R96) -/

section Timers

variable {e : Fin 4} {s : State} {c : EngineChannel}

/-- A change of the channel of an engine that has one is stored. -/
theorem State.onChannel_some (hc : s.prop.channels[e] = some c) (f : EngineChannel → EngineChannel) :
    s.onChannel e f = s.withChannel e (f c) := by
  unfold State.onChannel
  rw [hc]

/-- What the expiry of a freshness timer makes of a channel, LEVER_HOLD being 0 or not (R73). -/
theorem EngineChannel.hold_eq (load : Nat) (c : EngineChannel) : c.hold load =
    { c with fresh := if load = 0 then .idled else .holding, freshTimer := none
             holdTimer := if load = 0 then none else some load } := by
  unfold EngineChannel.hold
  split <;> simp [*]

theorem exec_dwellTimerExpiry (hr : s.restart = none) (hc : s.prop.channels[e] = some c) (hgear : c.gear = .dwell)
    (hruns : c.dwellTimer ≠ none) : exec (.dwellTimerExpiry e) s =
      .next (s.withChannel e { c with gear := .neutral, dwellTimer := none }) := by
  simp [exec, execDwellTimerExpiry, hr, State.onChannel_some hc, hgear, hruns]

theorem exec_freshnessTimerExpiry (hr : s.restart = none) (hc : s.prop.channels[e] = some c)
    (hruns : c.freshTimer ≠ none) : exec (.freshnessTimerExpiry e) s =
      .next ((s.withChannel e (c.hold s.params.leverHold)).raise .leverLost e.val) := by
  simp only [exec, execFreshnessTimerExpiry, hr, hc, Option.isNone_eq_false_iff.mpr (Option.isSome_iff_ne_none.mpr hruns)]
  rfl

theorem exec_holdTimerExpiry (hr : s.restart = none) (hc : s.prop.channels[e] = some c) (hruns : c.holdTimer ≠ none) :
    exec (.holdTimerExpiry e) s = .next (s.withChannel e { c with fresh := .idled, holdTimer := none }) := by
  simp [exec, execHoldTimerExpiry, hr, State.onChannel_some hc, hruns]

end Timers

/-- Settles O54. -/
theorem engineAndHelmTimersExpire : Obligations.EngineAndHelmTimersExpire := by
  intro e s hr with_ load
  refine ⟨fun c hc => ⟨exec_dwellTimerExpiry hr hc, fun hruns => ?_, exec_holdTimerExpiry hr hc⟩, fun hruns => ?_⟩
  · rw [exec_freshnessTimerExpiry hr hc hruns, EngineChannel.hold_eq]
    rfl
  · simp [exec, execHelmTimerExpiry, hr, hruns]

end Sys2Proof.Machine
end

section
/-! PROOF. A GOV-REPORT as one update of the engine channels: stored by every channel that matches, then the trim step of each
(R76, R78, R80). -/

namespace Sys2Proof.Machine

/-! ### Channels changed one after the other -/

/-- Operations that each change the channel of one engine, in a way that none of them alters for the others, come to one update
of the channels. -/
theorem State.foldl_onChannels {F : State → Fin 4 → State} {G : State → Fin 4 → EngineChannel → EngineChannel}
    (hstep : ∀ t e, F t e = t.withChannels (put t.prop.channels e ((t.prop.channels[e]).map (G t e))))
    (hkeep : ∀ t e, G (F t e) = G t) {l : List (Fin 4)} (hl : l.Nodup) (s : State) :
    l.foldl F s = s.withChannels (remap s.prop.channels fun e c => if e ∈ l then c.map (G s e) else c) := by
  induction l generalizing s with
  | nil =>
    have hsame : remap s.prop.channels (fun e c => if e ∈ [] then c.map (G s e) else c) = s.prop.channels :=
      vector_ext fun e => by simp
    rw [hsame]
    rfl
  | cons e es ih =>
    obtain ⟨he, hes⟩ := List.nodup_cons.mp hl
    rw [List.foldl_cons, ih hes, hkeep, hstep]
    refine congrArg (State.withChannels · s) (vector_ext fun k => ?_)
    simp only [State.withChannels, remap_get, put_get]
    by_cases hk : e = k
    · subst hk
      simp [he]
    · simp [hk, Ne.symm hk]

/-! ### The trim step (R80) -/

/-- What a GOV-REPORT leaves in a channel (R76). -/
def EngineChannel.report (c : EngineChannel) : Bool × Direction × Nat := (c.reported, c.repGear, c.repRpm)

/-- The lead of a group with what it has reported (R78). -/
def State.leadReport (s : State) (g : Nat) : Option (Fin 4 × Bool × Direction × Nat) :=
  (s.lead g).map fun m => (m.1, m.2.report)

/-- The trim of a channel after the trim step, by the report of the lead of its group (R80). -/
def State.trimAfter (s : State) (e : Fin 4) (x : EngineChannel) : Int :=
  match s.leadReport (s.engineEntry e).group, s.sync (s.engineEntry e).group with
  | some (k, reported, gear, rpm), some dir =>
    if k ≠ e ∧ reported = true ∧ x.reported = true ∧ gear = dir ∧ x.repGear = dir then
      clampInt (-(s.params.syncLimit : Int)) s.params.syncLimit
        (if x.repRpm < rpm then x.trim + s.params.syncStep
          else if rpm < x.repRpm then x.trim - s.params.syncStep else x.trim)
    else x.trim
  | _, _ => x.trim

/-- A channel after its trim step (R80). -/
def State.retrimmed (s : State) (e : Fin 4) (x : EngineChannel) : EngineChannel := { x with trim := s.trimAfter e x }

theorem State.trimStep_eq (s : State) (e : Fin 4) :
    s.trimStep e = s.withChannels (put s.prop.channels e ((s.prop.channels[e]).map (s.retrimmed e))) := by
  have hsame (h : (s.prop.channels[e]).map (s.retrimmed e) = s.prop.channels[e]) :
      s = s.withChannels (put s.prop.channels e ((s.prop.channels[e]).map (s.retrimmed e))) := by
    rw [h, put_get_id]
    rfl
  unfold State.trimStep
  dsimp only
  split
  · rename_i c k y dir hc hlead hsync
    have htrim : s.trimAfter e c = if k ≠ e ∧ y.reported = true ∧ c.reported = true ∧ y.repGear = dir ∧ c.repGear = dir
        then clampInt (-(s.params.syncLimit : Int)) s.params.syncLimit
          (if c.repRpm < y.repRpm then c.trim + s.params.syncStep
            else if y.repRpm < c.repRpm then c.trim - s.params.syncStep else c.trim)
        else c.trim := by
      rw [State.trimAfter, State.leadReport, hlead, hsync]
      rfl
    split
    · rename_i hmoves
      rw [hc, Option.map_some, State.retrimmed, htrim, if_pos hmoves]
      rfl
    · rename_i hmoves
      refine hsame ?_
      rw [hc, Option.map_some, State.retrimmed, htrim, if_neg hmoves]
  · rename_i hno
    refine hsame ?_
    cases hc : s.prop.channels[e] with
    | none => rfl
    | some c =>
      rw [Option.map_some, State.retrimmed, State.trimAfter, State.leadReport]
      cases hlead : s.lead (s.engineEntry e).group with
      | none => rfl
      | some m =>
        cases hsync : s.sync (s.engineEntry e).group with
        | none => rfl
        | some dir => exact absurd hsync (hno c m.1 m.2 dir hc hlead)

/-- The lead's report is read from the reports of the channels and from the tables alone. -/
theorem State.leadReport_congr {s t : State} (hm : t.mgmt = s.mgmt)
    (hc : ∀ e : Fin 4, (t.prop.channels[e]).map EngineChannel.report = (s.prop.channels[e]).map EngineChannel.report) :
    t.leadReport = s.leadReport := by
  funext g
  simp only [State.leadReport, State.lead, State.members, ← List.head?_map, List.map_filterMap]
  refine congrArg List.head? (List.filterMap_congr fun e _ => ?_)
  rw [State.engineEntry_of_mgmt hm]
  cases ht : t.prop.channels[e] with
  | none =>
    have hs : s.prop.channels[e] = none := Option.map_eq_none_iff.mp (by rw [← hc e, ht]; rfl)
    rw [hs]
  | some x =>
    obtain ⟨y, hs, hreport⟩ := Option.map_eq_some_iff.mp ((hc e).symm.trans (congrArg _ ht))
    rw [hs]
    dsimp only
    split
    · simp [hreport]
    · rfl

/-- A trim step alters no trim step to come: it changes no report (R80). -/
theorem State.retrimmed_trimStep (s : State) (e : Fin 4) : (s.trimStep e).retrimmed = s.retrimmed := by
  have hreport : (s.trimStep e).leadReport = s.leadReport := by
    refine State.leadReport_congr (State.trimStep_mgmt e s) fun k => ?_
    rw [State.trimStep_eq]
    show ((put s.prop.channels e _)[k]).map _ = _
    rw [put_get]
    split
    · rename_i hk
      subst hk
      rw [Option.map_map]
      rfl
    · rfl
  have hsync : (s.trimStep e).sync = s.sync := by
    rw [State.trimStep_eq]
    rfl
  funext k x
  rw [State.retrimmed, State.trimAfter, hreport, hsync, State.engineEntry_of_mgmt (State.trimStep_mgmt e s),
    State.trimStep_params]
  rfl

/-! ### The report (R76) -/

/-- A channel that has stored a GOV-REPORT (R76). -/
def EngineChannel.reporting (rpm : Nat) (gear : Direction) (c : EngineChannel) : EngineChannel :=
  { c with repRpm := rpm, repGear := gear, reported := true }

/-- The channels after the matching ones have stored a GOV-REPORT (R76). -/
def State.reportedTo (s : State) (ch rpm : Nat) (gear : Direction) : State :=
  s.withChannels (remap s.prop.channels fun e c => c.map fun x =>
    if (s.engineEntry e).channel = ch then x.reporting rpm gear else x)

theorem State.mem_governed {s : State} {ch : Nat} {e : Fin 4} {c : EngineChannel} (hc : s.prop.channels[e] = some c) :
    e ∈ (List.finRange 4).filter (s.governedBy ch) ↔ (s.engineEntry e).channel = ch := by
  simp [State.governedBy, hc]

/-- A GOV-REPORT taken: stored by every channel that matches, then each of those is trimmed by what all have stored (R76,
R80). -/
theorem State.takeGovReport_eq (ch : Nat) (data : List Byte) (s : State) :
    let r := s.reportedTo ch (min 3000 (u16At data 0)) (gearField (byteAt data 2))
    s.takeGovReport ch data = r.withChannels (remap r.prop.channels fun e c => c.map fun x =>
      if (s.engineEntry e).channel = ch then r.retrimmed e x else x) := by
  intro r
  have hnodup : ((List.finRange 4).filter (s.governedBy ch)).Nodup := (List.nodup_finRange 4).filter _
  have hstored : ((List.finRange 4).filter (s.governedBy ch)).foldl (fun t e => t.onChannel e
      (EngineChannel.reporting (min 3000 (u16At data 0)) (gearField (byteAt data 2)))) s = r := by
    rw [State.foldl_onChannels (G := fun _ _ => EngineChannel.reporting _ _)
      (fun t e => State.onChannel_eq e _ t) (fun _ _ => rfl) hnodup]
    refine congrArg (State.withChannels · s) (vector_ext fun e => ?_)
    simp only [remap_get]
    cases hc : s.prop.channels[e] with
    | none => simp
    | some c =>
      simp only [State.mem_governed hc, Option.map_some]
      split <;> rfl
  have hreported (e : Fin 4) : r.prop.channels[e] = (s.prop.channels[e]).map fun x =>
      if (s.engineEntry e).channel = ch then x.reporting (min 3000 (u16At data 0)) (gearField (byteAt data 2)) else x :=
    remap_get _ _ e
  have htaken : s.takeGovReport ch data =
      ((List.finRange 4).filter (s.governedBy ch)).foldl State.trimStep r := by
    rw [← hstored]
    rfl
  rw [htaken, State.foldl_onChannels (G := State.retrimmed) State.trimStep_eq State.retrimmed_trimStep hnodup]
  refine congrArg (State.withChannels · r) (vector_ext fun e => ?_)
  simp only [remap_get, hreported]
  cases hc : s.prop.channels[e] with
  | none => simp
  | some c =>
    simp only [State.mem_governed hc, Option.map_some]
    split <;> rfl

/-- The lead of a group is its first engine that has a channel (R78). -/
theorem State.leadReport_eq (s : State) (g : Nat) : s.leadReport g =
    ((List.finRange 4).find? fun k => (s.prop.channels[k]).isSome && decide ((s.engineEntry k).group = g)).bind
      fun k => (s.prop.channels[k]).map fun y => (k, y.report) := by
  simp only [State.leadReport, State.lead, State.members, List.head?_filterMap]
  induction List.finRange 4 with
  | nil => rfl
  | cons k ks ih =>
    rw [List.findSome?_cons, List.find?_cons]
    cases hk : s.prop.channels[k] with
    | none => simpa using ih
    | some y =>
      by_cases hg : (s.engineEntry k).group = g
      · have hread : s.prop.channels[k.val] = some y := hk
        simp [hg, hread]
      · simpa [hg] using ih

/-- Settles O20. -/
theorem govReportStoresAndTrims : Obligations.GovReportStoresAndTrims := by
  intro ch data s hears hlen rpm gear group takes stored lead active trim channels
  let r := s.reportedTo ch.toNat rpm gear
  have hr (e : Fin 4) : r.prop.channels[e] = stored e := remap_get _ _ e
  have hlead (g : Nat) : r.leadReport g = (lead g).bind fun k => (stored k).map fun y => (k, y.report) := by
    have hsome (k : Fin 4) : (stored k).isSome = (s.prop.channels[k]).isSome := Option.isSome_map
    rw [State.leadReport_eq]
    simp only [hr, hsome]
    rfl
  have htrim (e : Fin 4) (x : EngineChannel) (he : takes e) : r.trimAfter e x = trim e x := by
    have hsync : r.sync (s.engineEntry e).group = active (group e) := rfl
    have hentry : r.engineEntry e = s.engineEntry e := rfl
    simp only [State.trimAfter, hentry, hlead, hsync, trim]
    cases lead (group e) with
    | none => rfl
    | some k =>
      rw [Option.bind_some]
      cases active (group e) with
      | none => cases stored k <;> rfl
      | some dir =>
        cases hk : stored k with
        | none => simp only [Option.map_none, hk]
        | some y => simp only [Option.map_some, hk, EngineChannel.report, he, true_and]; rfl
  have hstill (e : Fin 4) (x : EngineChannel) (he : ¬takes e) : trim e x = x.trim := by
    simp only [trim, he, false_and, if_false]
    (repeat' split) <;> rfl
  have hchannel (e : Fin 4) : channels[e] = (stored e).map fun x => ({ x with trim := trim e x } : EngineChannel) := by
    simp only [channels, Fin.getElem_fin, Vector.getElem_ofFn]
  have hchannels : s.takeGovReport ch.toNat data = s.withChannels channels := by
    rw [State.takeGovReport_eq]
    refine congrArg (State.withChannels · s) (vector_ext fun e => ?_)
    rw [remap_get]
    show (r.prop.channels[e]).map _ = _
    rw [hr, hchannel]
    refine Option.map_congr fun x _ => ?_
    by_cases he : takes e
    · rw [if_pos he, ← htrim e x he]
      rfl
    · rw [if_neg he, hstill e x he]
  show Host.Outcome.next (s.frameEvent .m 3 (State.takeGovReport ch.toNat data) (frameOf 7 ch.toNat data)) = _
  rw [State.frameEvent_taken .m 3 _ _ hears hlen, hchannels]
  rfl

end Sys2Proof.Machine
end

section
/-! PROOF. The soundness of the actuator records (R90, R102, R103): what is asked of each, what it is read from, what telling
the steering unit restores, and the release controller, which tells it. -/

namespace Sys2Proof.Machine

/-! ### What is asked of an actuator record -/

/-- What is asked of an actuator record whatever its coupling is: a FLANKING one whose engine is not in ASTERN has target 0
(R90), and a GATED one is a BOW one at target and output 0 (R102). -/
structure Actuator.Steered (kind : ActuatorKind) (astern : Bool) (a : Actuator) : Prop where
  straight : kind = .flanking → astern = false → a.target = 0
  bow : a.state = .gated → kind = .bow
  still : a.state = .gated → a.target = 0 ∧ a.output = 0

/-- A record that is not GATED is asked for its target alone. -/
theorem Actuator.Steered.of_open {kind : ActuatorKind} {astern : Bool} {a : Actuator} (ho : a.state ≠ .gated)
    (hs : kind = .flanking → astern = false → a.target = 0) : a.Steered kind astern :=
  ⟨hs, fun h => absurd h ho, fun h => absurd h ho⟩

/-- A record that enters ALIGN has target 0 (R97). -/
theorem Actuator.align_steered (out : Int) (a : Actuator) (kind : ActuatorKind) (astern : Bool) :
    (a.align out).Steered kind astern :=
  .of_open (by simp [Actuator.align]) fun _ _ => rfl

/-- Every actuator record is as its entry and its engine ask. -/
def State.Steered (s : State) : Prop :=
  ∀ (j : Fin 8) (a : Actuator), s.steer.actuators[j] = some a →
    a.Steered (s.actuatorEntry j).kind (s.inAstern (s.actuatorEntry j).engine)

/-- Every BOW actuator is GATED exactly while its coupling is not MADE (R102, R103). -/
def State.BowsInStep (s : State) : Prop :=
  ∀ (j : Fin 8) (a : Actuator), s.steer.actuators[j] = some a → (s.actuatorEntry j).kind = .bow →
    (a.state = .gated ↔ s.bowMade j = false)

/-- Every actuator record is sound. -/
structure State.SteersSoundly (s : State) : Prop where
  steered : s.Steered
  inStep : s.BowsInStep

theorem State.steeringSound_iff (s : State) : s.steeringSound = true ↔ s.SteersSoundly := by
  have hactuator (j : Fin 8) : s.actuatorSound j = true ↔ ∀ a, s.steer.actuators[j] = some a →
      a.Steered (s.actuatorEntry j).kind (s.inAstern (s.actuatorEntry j).engine) ∧
        ((s.actuatorEntry j).kind = .bow → (a.state = .gated ↔ s.bowMade j = false)) := by
    unfold State.actuatorSound
    cases s.steer.actuators[j] with
    | none => simp
    | some a =>
      simp only [Bool.and_eq_true, decide_eq_true_eq, Option.some.injEq, forall_eq']
      constructor
      · rintro ⟨⟨hstraight, hgated⟩, hstill⟩
        exact ⟨⟨hstraight, fun h => (hgated.mp h).1, hstill⟩, fun hb => by simp [hgated, hb]⟩
      · rintro ⟨h, hgated⟩
        exact ⟨⟨h.straight, fun hg => ⟨h.bow hg, (hgated (h.bow hg)).mp hg⟩, fun hb => (hgated hb.1).mpr hb.2⟩, h.still⟩
  simp only [State.steeringSound, List.all_eq_true, List.mem_finRange, true_imp_iff, hactuator]
  exact ⟨fun h => ⟨fun j a ha => (h j a ha).1, fun j a ha => (h j a ha).2⟩,
    fun h j a ha => ⟨h.steered j a ha, h.inStep j a ha⟩⟩

/-! ### What it is read from -/

section Reading

variable {s u : State}

theorem State.inAstern_eq (s : State) (e : Fin 4) :
    s.inAstern e = (s.prop.channels[e]).any fun c => decide (c.gear = .astern) := by
  unfold State.inAstern
  cases s.prop.channels[e] <;> rfl

theorem State.bowMade_eq (s : State) (j : Fin 8) :
    s.bowMade j = (s.coup.records[(s.actuatorEntry j).bow]).any fun r => decide (r.state = .made) := by
  unfold State.bowMade
  cases s.coup.records[(s.actuatorEntry j).bow] <;> rfl

theorem State.inAstern_congr (h : u.prop = s.prop) : u.inAstern = s.inAstern := by
  funext e
  rw [State.inAstern, h, State.inAstern]

/-- Whether a BOW actuator's coupling is MADE is read from the ACTUATOR entries and the states of the couplings. -/
theorem State.bowMade_of_states
    (hc : ∀ i : Fin 48, (u.coup.records[i]).map CouplingRecord.state = (s.coup.records[i]).map CouplingRecord.state)
    (hm : u.mgmt = s.mgmt) : u.bowMade = s.bowMade := by
  have hany (x : Option CouplingRecord) : (x.any fun r => decide (r.state = .made)) =
      (x.map CouplingRecord.state).any fun st => decide (st = .made) := by
    cases x <;> rfl
  funext j
  have hbow : (u.actuatorEntry j).bow = (s.actuatorEntry j).bow := by rw [State.actuatorEntry_of_mgmt hm]
  rw [State.bowMade_eq, State.bowMade_eq, hany, hany, hc]
  simp only [hbow]

theorem State.bowMade_congr (hc : u.coup.records = s.coup.records) (hm : u.mgmt = s.mgmt) : u.bowMade = s.bowMade :=
  State.bowMade_of_states (fun i => by rw [hc]) hm

/-- Targets and stillness are read from the records, the ACTUATOR entries and the gears. -/
theorem State.Steered.of_same (h : s.Steered) (ha : u.steer.actuators = s.steer.actuators)
    (he : u.actuatorEntry = s.actuatorEntry) (hg : u.inAstern = s.inAstern) : u.Steered := by
  unfold State.Steered
  rw [ha, he, hg]
  exact h

/-- The soundness of the actuators is read from the records, the ACTUATOR entries, the gears and the couplings. -/
theorem State.SteersSoundly.of_same (h : s.SteersSoundly) (ha : u.steer.actuators = s.steer.actuators)
    (he : u.actuatorEntry = s.actuatorEntry) (hg : u.inAstern = s.inAstern) (hb : u.bowMade = s.bowMade) :
    u.SteersSoundly := by
  refine ⟨h.steered.of_same ha he hg, ?_⟩
  unfold State.BowsInStep
  rw [ha, he, hb]
  exact h.inStep

theorem State.Steered.of_units (h : s.Steered) (ha : u.steer = s.steer) (hp : u.prop = s.prop) (hm : u.mgmt = s.mgmt) :
    u.Steered :=
  h.of_same (congrArg _ ha) (funext fun _ => State.actuatorEntry_of_mgmt hm _) (State.inAstern_congr hp)

theorem State.SteersSoundly.of_units (h : s.SteersSoundly) (ha : u.steer = s.steer) (hp : u.prop = s.prop)
    (hc : u.coup = s.coup) (hm : u.mgmt = s.mgmt) : u.SteersSoundly :=
  h.of_same (congrArg _ ha) (funext fun _ => State.actuatorEntry_of_mgmt hm _) (State.inAstern_congr hp)
    (State.bowMade_congr (congrArg _ hc) hm)

/-- Coupling records changed with each in the state it had. -/
theorem State.SteersSoundly.of_couplings (h : s.SteersSoundly) (ha : u.steer = s.steer) (hp : u.prop = s.prop)
    (hm : u.mgmt = s.mgmt)
    (hc : ∀ i : Fin 48, (u.coup.records[i]).map CouplingRecord.state = (s.coup.records[i]).map CouplingRecord.state) :
    u.SteersSoundly :=
  h.of_same (congrArg _ ha) (funext fun _ => State.actuatorEntry_of_mgmt hm _) (State.inAstern_congr hp)
    (State.bowMade_of_states hc hm)

/-- Engine channels changed with each staying in ASTERN or out of it. -/
theorem State.SteersSoundly.of_gears (h : s.SteersSoundly) (ha : u.steer = s.steer) (hc : u.coup = s.coup)
    (hm : u.mgmt = s.mgmt) (hg : ∀ e, u.inAstern e = s.inAstern e) : u.SteersSoundly :=
  h.of_same (congrArg _ ha) (funext fun _ => State.actuatorEntry_of_mgmt hm _) (funext hg)
    (State.bowMade_congr (congrArg _ hc) hm)

/-- Where no actuator record exists nothing is asked. -/
theorem State.SteersSoundly.of_none (h : ∀ j : Fin 8, s.steer.actuators[j] = none) : s.SteersSoundly :=
  ⟨fun j a ha => absurd ((h j).symm.trans ha) (by simp), fun j a ha => absurd ((h j).symm.trans ha) (by simp)⟩

end Reading

/-! ### Records stored, and the steering unit told (R102, R103) -/

section Telling

variable {s : State}

/-- A record stored in place of another, and GATED exactly when that one was. -/
theorem State.SteersSoundly.withActuator (h : s.SteersSoundly) {j : Fin 8} {a b : Actuator}
    (ha : s.steer.actuators[j] = some a) (hstate : b.state = .gated ↔ a.state = .gated)
    (hb : b.Steered (s.actuatorEntry j).kind (s.inAstern (s.actuatorEntry j).engine)) :
    (s.withActuator j b).SteersSoundly := by
  have hread (k : Fin 8) (c : Actuator) (hc : (s.withActuator j b).steer.actuators[k] = some c) :
      j = k ∧ b = c ∨ s.steer.actuators[k] = some c := by
    change (put s.steer.actuators j (some b))[k] = some c at hc
    rw [put_get] at hc
    split at hc
    · exact .inl ⟨‹_›, Option.some.inj hc⟩
    · exact .inr hc
  constructor
  · intro k c hc
    rcases hread k c hc with ⟨rfl, rfl⟩ | hk
    · exact hb
    · exact h.steered k c hk
  · intro k c hc hbow
    rcases hread k c hc with ⟨rfl, rfl⟩ | hk
    · exact hstate.trans (h.inStep j a ha hbow)
    · exact h.inStep k c hk hbow

/-- A record that is not GATED stored in place of another that is not. -/
theorem State.SteersSoundly.withOpen (h : s.SteersSoundly) {j : Fin 8} {a b : Actuator}
    (ha : s.steer.actuators[j] = some a) (hopen : a.state ≠ .gated) (hstays : b.state ≠ .gated)
    (hb : (s.actuatorEntry j).kind = .flanking → s.inAstern (s.actuatorEntry j).engine = false → b.target = 0) :
    (s.withActuator j b).SteersSoundly :=
  h.withActuator ha (iff_of_false hstays hopen) (.of_open hstays hb)

/-- Bringing a record in step leaves a sound one, whatever its coupling was before (R102, R103). -/
theorem State.gating_steered {j : Fin 8} {a : Actuator} {astern : Bool} (h : a.Steered (s.actuatorEntry j).kind astern) :
    (s.gating j a).Steered (s.actuatorEntry j).kind astern ∧
      ((s.actuatorEntry j).kind = .bow → ((s.gating j a).state = .gated ↔ s.bowMade j = false)) := by
  unfold State.gating
  split_ifs with hkind hmade hgated hgated
  · exact ⟨h, fun hb => absurd hb hkind⟩
  · exact ⟨a.align_steered 0 _ _, fun _ => by simp [hmade, Actuator.align]⟩
  · exact ⟨h, fun _ => by simp [hmade, hgated]⟩
  · exact ⟨h, fun _ => by simp [hmade, hgated]⟩
  · exact ⟨⟨fun _ _ => rfl, fun _ => not_not.mp hkind, fun _ => ⟨rfl, rfl⟩⟩, fun _ => by simp [hmade, Actuator.gate]⟩

/-- Telling the steering unit makes every record sound (R102, R103). -/
theorem State.Steered.tellSteering (h : s.Steered) : s.tellSteering.SteersSoundly := by
  have hentry (j : Fin 8) : s.tellSteering.actuatorEntry j = s.actuatorEntry j := State.actuatorEntry_of_mgmt (by simp) j
  have hastern : s.tellSteering.inAstern = s.inAstern := State.inAstern_congr (by simp)
  have hmade : s.tellSteering.bowMade = s.bowMade := State.bowMade_congr (by simp) (by simp)
  have hread (j : Fin 8) (b : Actuator) (hb : s.tellSteering.steer.actuators[j] = some b) :
      ∃ a, s.steer.actuators[j] = some a ∧ s.gating j a = b := by
    rw [State.tellSteering_actuator] at hb
    exact Option.map_eq_some_iff.mp hb
  constructor
  · intro j b hb
    obtain ⟨a, ha, rfl⟩ := hread j b hb
    rw [hentry, hastern]
    exact (State.gating_steered (h j a ha)).1
  · intro j b hb
    obtain ⟨a, ha, rfl⟩ := hread j b hb
    rw [hentry, hmade]
    exact (State.gating_steered (h j a ha)).2

theorem State.Steered.afterChange (h : s.Steered) : s.afterChange.SteersSoundly :=
  State.Steered.tellSteering (h.of_units (by simp) (by simp) (by simp))

/-! ### Supervision and release (chapters 6 and 7) -/

/-- What follows the end of a release: the steering unit is told, and a notice is raised (R138, R140, R141). -/
theorem State.Steered.toldAndRaised (h : s.Steered) (k : NoticeKind) (i : Nat) : (s.afterChange.raise k i).SteersSoundly :=
  h.afterChange.of_units (State.raise_steer _ _ _) (State.raise_prop _ _ _) (State.raise_coup _ _ _) (State.raise_mgmt _ _ _)

theorem State.Steered.abortRelease (h : s.Steered) (i : Fin 48) : (s.abortRelease i).SteersSoundly :=
  State.Steered.toldAndRaised (h.of_units (by simp) (by simp) (by simp)) _ _

theorem State.Steered.failRelease (h : s.Steered) (i : Fin 48) : (s.failRelease i).SteersSoundly :=
  State.Steered.toldAndRaised (h.of_units (by simp) (by simp) (by simp)) _ _

theorem State.SteersSoundly.checkLock (h : s.SteersSoundly) (c : Interlock) : (s.checkLock c).SteersSoundly := by
  rcases s.checkLock_cases c with heq | ⟨i, -, -, -, heq⟩ <;> rw [heq]
  · exact h
  · exact h.steered.abortRelease i

theorem State.SteersSoundly.watchBow (h : s.SteersSoundly) (before : State) : (State.watchBow before s).SteersSoundly := by
  rcases State.watchBow_cases before s with heq | heq <;> rw [heq]
  · exact h
  · exact h.checkLock _

theorem State.SteersSoundly.tellEngaged (h : s.SteersSoundly) (b : Bool) : (s.tellEngaged b).SteersSoundly := by
  rcases s.tellEngaged_cases b with heq | ⟨i, heq⟩ <;> rw [heq]
  · exact h
  · exact h.steered.abortRelease i

end Telling

end Sys2Proof.Machine
end

section
/-! PROOF. The units keep the actuator records sound: couplings (chapter 6), steering (chapter 5), propulsion (chapters 3 and
4) and stations (chapter 2). -/

namespace Sys2Proof.Machine

/-! ### Couplings (chapters 6 and 7) -/

section Coupling

variable {s : State} {i : Fin 48}

/-- A coupling record stored with the state it had leaves the gating as it is. -/
theorem State.SteersSoundly.withCoupling (h : s.SteersSoundly) {r0 r : CouplingRecord} (hr : s.coup.records[i] = some r0)
    (hstate : r.state = r0.state) : (s.withCoupling i r).SteersSoundly := by
  refine h.of_couplings rfl rfl rfl fun k => ?_
  rw [State.withCoupling, put_get]
  split
  · rename_i hk
    subst hk
    rw [hr, Option.map_some, Option.map_some, hstate]
  · rfl

theorem State.Steered.completeRelease (h : s.Steered) (r : CouplingRecord) : (s.completeRelease i r).SteersSoundly :=
  State.Steered.toldAndRaised (h.of_units (by simp) (by simp) (by simp)) _ _

theorem State.Steered.acceptRelease (h : s.Steered) (r : CouplingRecord) : (s.acceptRelease i r).SteersSoundly := by
  unfold State.acceptRelease
  refine State.Steered.afterChange (h.of_units ?_ ?_ ?_)
  all_goals simp

theorem State.Steered.parted (h : s.Steered) (r : CouplingRecord) : (s.parted i r).afterChange.SteersSoundly :=
  State.Steered.afterChange (h.of_units (by simp) (by simp) (by simp))

theorem State.SteersSoundly.reportOpen (h : s.SteersSoundly) (r : CouplingRecord) :
    (s.reportOpen i r).SteersSoundly := by
  unfold State.reportOpen
  split
  · exact h.steered.completeRelease r
  · exact h
  · exact h
  all_goals exact h.steered.parted r

theorem State.SteersSoundly.reclassified (h : s.SteersSoundly) (r : CouplingRecord) :
    (s.reclassified i r).SteersSoundly := by
  unfold State.reclassified
  split
  · exact h
  · exact State.Steered.afterChange (h.steered.of_units (by simp) (by simp) (by simp))

theorem State.SteersSoundly.reportEngaged (h : s.SteersSoundly) (r : CouplingRecord) :
    (s.reportEngaged i r).SteersSoundly := by
  unfold State.reportEngaged
  split
  · exact h
  · exact h.checkLock _
  all_goals exact h.reclassified r

theorem State.SteersSoundly.takeCoupleReport (h : s.SteersSoundly) (ch : Nat) (data : List Byte) :
    (s.takeCoupleReport ch data).SteersSoundly := by
  unfold State.takeCoupleReport State.reportCoupling
  split
  · exact h
  · split
    · exact h
    · rename_i r hr
      dsimp only
      split
      · exact (h.withCoupling hr (by rfl)).reportOpen _
      · exact (h.withCoupling hr (by rfl)).reportEngaged _

theorem State.SteersSoundly.raiseAges (h : s.SteersSoundly) : s.raiseAges.SteersSoundly := by
  have hstate : CouplingRecord.state ∘ CouplingRecord.aged = CouplingRecord.state := by
    funext r
    unfold Function.comp CouplingRecord.aged
    split <;> rfl
  unfold State.raiseAges
  refine h.of_couplings rfl rfl rfl fun k => ?_
  rw [remap_get, Option.map_map, hstate]

theorem State.SteersSoundly.staleStep (h : s.SteersSoundly) (i : Fin 48) : (s.staleStep i).SteersSoundly := by
  unfold State.staleStep
  split
  · exact h
  · split
    · exact State.Steered.afterChange (h.steered.of_units (by simp) (by simp) (by simp))
    · exact h

theorem State.SteersSoundly.holdStep (h : s.SteersSoundly) : s.holdStep.SteersSoundly := by
  have hrecords : s.holdStep.coup.records = s.coup.records := by
    unfold State.holdStep
    dsimp only
    split_ifs
    · rw [State.raise_coup]
    · rfl
    · rfl
  exact h.of_couplings s.holdStep_steer s.holdStep_prop s.holdStep_mgmt fun i => by rw [hrecords]

theorem State.SteersSoundly.pollStep (h : s.SteersSoundly) : s.pollStep.SteersSoundly := by
  unfold State.pollStep
  split
  · exact h
  · exact h.of_same rfl rfl rfl rfl

theorem State.SteersSoundly.pollExpiry (h : s.SteersSoundly) : s.pollExpiry.SteersSoundly := by
  have htimer : ({ s with coup := { s.coup with pollTimer := s.params.pollInterval } } : State).SteersSoundly :=
    h.of_same rfl rfl rfl rfl
  unfold State.pollExpiry
  dsimp only
  split
  · exact (List.foldlRecOn _ _ htimer.pollStep.raiseAges fun _ ht i _ => ht.staleStep i).holdStep
  · exact htimer

/-- The couplings' coming into being and end tell the steering unit (R129, R130). -/
theorem State.Steered.createCouplings (h : s.Steered) : s.createCouplings.SteersSoundly :=
  State.Steered.afterChange (h.of_units rfl rfl rfl)

theorem State.Steered.dropCouplings (h : s.Steered) : s.dropCouplings.SteersSoundly :=
  State.Steered.tellSteering (h.of_units rfl rfl rfl)

end Coupling

/-! ### The steering unit (chapter 5) -/

section Steering

variable {s : State}

/-- The target formed at a steering-timer expiry is 0 for a FLANKING actuator whose engine is not in ASTERN (R90). -/
theorem State.steerTarget_straight (level : Nat) {j : Fin 8} (hkind : (s.actuatorEntry j).kind = .flanking)
    (hoff : s.inAstern (s.actuatorEntry j).engine = false) : s.steerTarget level j = 0 := by
  unfold State.steerTarget clampInt
  dsimp only
  rw [if_pos ⟨hkind, hoff⟩]
  omega

theorem Actuator.stepped_target (target : Int) (limit rate elapsed : Nat) (a : Actuator) :
    (a.stepped target limit rate elapsed).target = target := by
  unfold Actuator.stepped
  dsimp only
  split <;> rfl

theorem Actuator.stepped_state (target : Int) (limit rate elapsed : Nat) (a : Actuator) :
    (a.stepped target limit rate elapsed).state = a.state := by
  unfold Actuator.stepped
  dsimp only
  split <;> rfl

theorem State.SteersSoundly.steerActuator (h : s.SteersSoundly) (level elapsed : Nat) (j : Fin 8) :
    (s.steerActuator level elapsed j).SteersSoundly := by
  unfold State.steerActuator
  split
  · exact h
  · rename_i a ha
    dsimp only
    split
    · exact h
    · exact h
    · rename_i hstate
      refine (State.SteersSoundly.watchBow (h.withOpen ha ?_ ?_ ?_) s).of_units rfl rfl rfl rfl
      · simp [hstate]
      · simp [Actuator.stepped_state, hstate]
      · rw [Actuator.stepped_target]
        exact s.steerTarget_straight level
    · rename_i hstate
      refine (h.withOpen ha ?_ ?_ ?_).of_units rfl rfl rfl rfl
      · simp [hstate]
      · simp [hstate]
      · exact s.steerTarget_straight level

theorem State.SteersSoundly.steeringExpiry (h : s.SteersSoundly) : s.steeringExpiry.SteersSoundly :=
  List.foldlRecOn _ _ (h.of_same rfl rfl rfl rfl) fun _ ht j _ => ht.steerActuator _ _ j

theorem State.SteersSoundly.reportTo (h : s.SteersSoundly) (v : Int) (j : Fin 8) : (s.reportTo v j).SteersSoundly := by
  unfold State.reportTo
  split
  · exact h
  · rename_i a ha
    have hkeeps {b : Actuator} (hstate : b.state = a.state) (htarget : b.target = a.target) (houtput : b.output = a.output) :
        (s.withActuator j b).SteersSoundly := by
      obtain ⟨hstraight, hbow, hstill⟩ := h.steered j a ha
      refine h.withActuator ha (by rw [hstate]) ⟨?_, ?_, ?_⟩
      · rwa [htarget]
      · rwa [hstate]
      · rwa [hstate, htarget, houtput]
    dsimp only
    split
    · rename_i hstate
      refine State.SteersSoundly.watchBow (h.withOpen ha (by simp [hstate]) (by simp [State.aligned]) ?_) s
      intro hkind hoff
      simp [State.aligned, hkind, hoff]
    · rename_i hstate
      split
      · exact (h.withOpen (b := { a with lastReported := v, reported := true, count := _, state := .fault }) ha
          (by simp [hstate]) (by simp) (h.steered j a ha).straight).of_units rfl rfl rfl rfl
      · exact hkeeps rfl rfl rfl
    · exact hkeeps rfl rfl rfl
    · exact hkeeps rfl rfl rfl

theorem State.SteersSoundly.takeRudReport (h : s.SteersSoundly) (p : Port) (ch : Nat) (data : List Byte) :
    (s.takeRudReport p ch data).SteersSoundly :=
  List.foldlRecOn _ _ h fun _ ht j _ => ht.reportTo _ j

/-- A record in step with its coupling stays as it is. -/
theorem State.SteersSoundly.gateActuator_eq (h : s.SteersSoundly) (j : Fin 8) : s.gateActuator j = s := by
  unfold State.gateActuator
  split
  · rfl
  · rename_i a ha
    split_ifs with hkind hmade hgated hgated
    · rfl
    · have hoff := (h.inStep j a ha (not_not.mp hkind)).mp hgated
      simp [hmade] at hoff
    · rfl
    · rfl
    · exact absurd ((h.inStep j a ha (not_not.mp hkind)).mpr (by simpa using hmade)) hgated

/-- An actuator taken out of FAULT is in step already (R101). -/
theorem State.SteersSoundly.realign (h : s.SteersSoundly) {j : Fin 8} {a : Actuator} (ha : s.steer.actuators[j] = some a)
    (hfault : a.state = .fault) : ((s.withActuator j (a.align a.output)).gateActuator j).SteersSoundly := by
  have hstored : (s.withActuator j (a.align a.output)).SteersSoundly :=
    h.withOpen ha (by simp [hfault]) (by simp [Actuator.align]) fun _ _ => rfl
  rw [hstored.gateActuator_eq]
  exact hstored

/-- New records are in ALIGN at target 0, and the steering unit is told (R97, R105). -/
theorem State.createActuators_steersSoundly (s : State) : s.createActuators.SteersSoundly := by
  refine State.Steered.tellSteering fun j a ha => ?_
  have hnew : (if s.actuatorEnabled j then some newActuator else none) = some a := by
    rw [← ha]
    simp
  obtain ⟨-, hsome⟩ := Option.ite_none_right_eq_some.mp hnew
  rw [← Option.some.inj hsome]
  exact Actuator.align_steered 0 newActuator _ _

end Steering

/-! ### The propulsion unit (chapters 3 and 4) -/

section Propulsion

variable {s u : State}

/-- A channel stored with the gear it had. -/
theorem State.SteersSoundly.withChannel (h : s.SteersSoundly) {e : Fin 4} {c d : EngineChannel}
    (hc : s.prop.channels[e] = some c) (hgear : d.gear = .astern ↔ c.gear = .astern) : (s.withChannel e d).SteersSoundly := by
  refine h.of_gears rfl rfl rfl fun k => ?_
  rw [State.inAstern_eq, State.inAstern_eq]
  rw [State.withChannel, put_get]
  split
  · rename_i hk
    subst hk
    rw [hc, Option.any_some, Option.any_some, decide_eq_decide.mpr hgear]
  · rfl

theorem State.SteersSoundly.onChannel (h : s.SteersSoundly) (e : Fin 4) {f : EngineChannel → EngineChannel}
    (hf : ∀ c, (f c).gear = .astern ↔ c.gear = .astern) : (s.onChannel e f).SteersSoundly := by
  unfold State.onChannel
  split
  · exact h
  · exact h.withChannel ‹_› (hf _)

theorem State.SteersSoundly.leversAccepted (h : s.SteersSoundly) (which : Fin 4 → Bool) :
    (s.leversAccepted which).SteersSoundly := by
  refine List.foldlRecOn _ _ h fun t ht e _ => ?_
  split
  · exact ht.onChannel e fun _ => Iff.rfl
  · exact ht

theorem State.SteersSoundly.trimStep (h : s.SteersSoundly) (e : Fin 4) : (s.trimStep e).SteersSoundly := by
  unfold State.trimStep
  dsimp only
  split
  · rename_i hc _ _
    split
    · exact h.withChannel hc Iff.rfl
    · exact h
  · exact h

theorem State.SteersSoundly.takeGovReport (h : s.SteersSoundly) (ch : Nat) (data : List Byte) :
    (s.takeGovReport ch data).SteersSoundly :=
  List.foldlRecOn _ _ (List.foldlRecOn _ _ h fun _ ht e _ => ht.onChannel e fun _ => Iff.rfl)
    fun _ ht e _ => ht.trimStep e

/-- After pass 1 every FLANKING target is 0 whose engine is not in ASTERN: it was, or its engine has left ASTERN (R90). -/
theorem State.SteersSoundly.driven (h : s.SteersSoundly) (level elapsed : Nat) :
    (s.driven level elapsed fun _ => true).SteersSoundly := by
  have hread (j : Fin 8) (b : Actuator) (hb : (s.driven level elapsed fun _ => true).steer.actuators[j] = some b) :
      ∃ a, s.steer.actuators[j] = some a ∧ a.zeroedIf (s.flanking s.leavesAstern j) = b := by
    rw [State.driven, State.withDrive, remap_get] at hb
    exact Option.map_eq_some_iff.mp hb
  have hstate (on : Bool) (a : Actuator) : (a.zeroedIf on).state = a.state := by cases on <;> rfl
  have houtput (on : Bool) (a : Actuator) : (a.zeroedIf on).output = a.output := by cases on <;> rfl
  have htarget (on : Bool) (a : Actuator) (h0 : a.target = 0 ∨ on = true) : (a.zeroedIf on).target = 0 := by
    cases on with
    | true => rfl
    | false => exact h0.resolve_right (by simp)
  have hleft (e : Fin 4) (hoff : (s.driven level elapsed fun _ => true).inAstern e = false)
      (hnot : ¬s.leavesAstern e = true) : s.inAstern e = false := by
    rw [State.inAstern_eq, State.driven_channel, if_pos rfl] at hoff
    rw [State.inAstern_eq]
    rw [State.leavesAstern] at hnot
    cases hc : s.prop.channels[e] with
    | none => rfl
    | some c =>
      rw [hc] at hoff hnot
      have hnow : (s.geared e c).gear ≠ .astern := of_decide_eq_false hoff
      have hstayed : ¬(c.gear = .astern ∧ (s.geared e c).gear ≠ .astern) := fun h => hnot (decide_eq_true h)
      exact decide_eq_false fun hwas => hstayed ⟨hwas, hnow⟩
  constructor
  · intro j b hb
    obtain ⟨a, ha, rfl⟩ := hread j b hb
    obtain ⟨hstraight, hbow, hstill⟩ := h.steered j a ha
    refine ⟨fun hkind hoff => htarget _ a ?_, fun hg => hbow (hstate _ a ▸ hg), fun hg => ?_⟩
    · by_cases hleaves : s.leavesAstern (s.actuatorEntry j).engine = true
      · exact .inr (by simp [State.flanking, hleaves, show (s.actuatorEntry j).kind = .flanking from hkind])
      · exact .inl (hstraight hkind (hleft _ hoff hleaves))
    · obtain ⟨h0, hout⟩ := hstill (hstate _ a ▸ hg)
      exact ⟨htarget _ a (.inl h0), (houtput _ a).trans hout⟩
  · intro j b hb
    obtain ⟨a, ha, rfl⟩ := hread j b hb
    rw [hstate]
    exact h.inStep j a ha

/-- Passes 2 and 3 leave every gear as it is (R42). -/
theorem State.SteersSoundly.synchronized (h : s.SteersSoundly) : s.synchronized.SteersSoundly := by
  refine h.of_gears rfl rfl rfl fun e => ?_
  have hgear (g : Nat) (c : EngineChannel) : (s.synced g e c).gear = c.gear := by
    unfold State.synced
    split <;> rfl
  rw [State.inAstern_eq, State.inAstern_eq, State.synchronized, remap_get, Option.any_map]
  simp only [hgear]

theorem State.SteersSoundly.pacedOn (h : s.SteersSoundly) (on : Fin 4 → Bool) : (s.pacedOn on).SteersSoundly := by
  refine h.of_gears rfl rfl rfl fun e => ?_
  rw [State.inAstern_eq, State.inAstern_eq, State.pacedOn_channel]
  split
  · rw [Option.any_map]
    rfl
  · rfl

theorem State.SteersSoundly.emit (h : s.SteersSoundly) (f : Option Frame) : (s.emit f).SteersSoundly := by
  cases f with
  | none => exact h
  | some f => exact h.of_units rfl rfl rfl rfl

theorem State.SteersSoundly.rampExpiry (h : s.SteersSoundly) : s.rampExpiry.SteersSoundly := by
  have hreloaded : ({ s with prop := { s.prop with rampTimer := s.params.propInterval } } : State).SteersSoundly :=
    h.of_gears rfl rfl rfl fun _ => rfl
  have hpassed : s.passedOne.SteersSoundly := hreloaded.driven _ _
  rw [State.rampExpiry_eq]
  exact List.foldlRecOn _ _ ((hpassed.synchronized.pacedOn _).tellEngaged _) fun _ ht _ _ => ht.emit _

/-- Engine channels come into being in an open gear, where no channel stood before (R44, R64). -/
theorem State.SteersSoundly.createChannels (h : s.SteersSoundly) (hnone : ∀ e, s.inAstern e = false) :
    s.createChannels.SteersSoundly := by
  refine h.of_gears rfl rfl rfl fun e => ?_
  rw [hnone, State.inAstern_eq]
  simp only [State.createChannels, Fin.getElem_fin, Vector.getElem_ofFn]
  split
  · rw [Option.any_some, newChannel, EngineChannel.enterDwell]
    split <;> rfl
  · rfl

theorem State.SteersSoundly.dropChannels (h : s.SteersSoundly) (hnone : ∀ e, s.inAstern e = false) :
    s.dropChannels.SteersSoundly := by
  refine h.of_gears rfl rfl rfl fun e => ?_
  rw [hnone, State.inAstern_eq, State.dropChannels, replicate_get]
  rfl

end Propulsion

/-! ### The station unit (chapter 2) -/

section Station

variable {s : State}

theorem State.SteersSoundly.leverFrom (h : s.SteersSoundly) (data : List Byte) (i : Fin 4) :
    (s.leverFrom data i).SteersSoundly := by
  unfold State.leverFrom
  dsimp only
  split
  · refine State.SteersSoundly.leversAccepted ?_ _
    exact h.of_units rfl rfl rfl rfl
  · exact h.of_units rfl rfl rfl rfl

theorem State.SteersSoundly.helmFrom (h : s.SteersSoundly) (data : List Byte) (i : Fin 4) :
    (s.helmFrom data i).SteersSoundly := by
  unfold State.helmFrom
  dsimp only
  split
  · refine State.SteersSoundly.checkLock ?_ _
    exact h.of_same rfl rfl rfl rfl
  · exact h.of_units rfl rfl rfl rfl

theorem State.SteersSoundly.takeFrom (h : s.SteersSoundly) (data : List Byte) (i : Fin 4) :
    (s.takeFrom data i).SteersSoundly := by
  rw [State.takeFrom_eq]
  split
  · have htaken (t : State) (ht : t.SteersSoundly) : (((t.leversAccepted fun _ => true).helmAccepted).raise
        .stationTransfer i.val).SteersSoundly := (ht.leversAccepted _).of_same rfl rfl rfl rfl
    exact htaken _ (h.of_units rfl rfl rfl rfl)
  · exact h

theorem State.SteersSoundly.watchFrom (h : s.SteersSoundly) (i : Fin 4) : (s.watchFrom i).SteersSoundly := by
  unfold State.watchFrom
  split
  · exact h.of_units (by simp) (by simp) (by simp) (by simp)
  · exact h

theorem State.SteersSoundly.stationFrame (h : s.SteersSoundly) (k : StationKind) (ch : Nat) (data : List Byte)
    {handle : Fin 4 → State → State} (hh : ∀ i (t : State), t.SteersSoundly → (handle i t).SteersSoundly) :
    (s.stationFrame k ch data handle).SteersSoundly := by
  unfold State.stationFrame
  dsimp only
  split
  · exact h
  · split
    · exact h.of_units rfl rfl rfl rfl
    · exact hh _ _ (h.of_units rfl rfl rfl rfl)

end Station

end Sys2Proof.Machine
end

section
/-! PROOF. Every step keeps FLANKING targets and BOW gating sound (EveryStepKeepsSteering): the tables opened, written and
closed, the other commands, the restarts, every rule of the units, and the step (R90, R102, R103). -/

namespace Sys2Proof.Machine

/-! ### Tables opened, written and closed (R82, R105, R129, R185 to R190) -/

section Tables

variable {s : State}

/-- While its table is being loaded a unit has no records (R63, R85, R184). -/
theorem State.RecordsFit.none_of_not_ready (h : s.RecordsFit) {t : TableId} (hready : (s.table t).state ≠ .ready) :
    s.presence t = fun _ => false :=
  (h t).trans (State.wanted_of_not_ready hready)

theorem State.no_actuator_of_not_ready (h : s.RecordsFit) (hready : (s.table .actuator).state ≠ .ready) (j : Fin 8) :
    s.steer.actuators[j] = none := by
  simpa [State.presence] using congrFun (h.none_of_not_ready hready) j

theorem State.no_astern_of_not_ready (h : s.RecordsFit) (hready : (s.table .engine).state ≠ .ready) (e : Fin 4) :
    s.inAstern e = false := by
  have hnone : s.prop.channels[e] = none := by simpa [State.presence] using congrFun (h.none_of_not_ready hready) e
  rw [State.inAstern_eq, hnone]
  rfl

/-- With no channel in gear no engine is in ASTERN. -/
theorem State.no_astern_of_disengaged (h : s.enginesEngaged = false) (e : Fin 4) : s.inAstern e = false := by
  rw [State.inAstern_eq]
  cases hc : s.prop.channels[e] with
  | none => rfl
  | some c =>
    refine decide_eq_false fun hgear => ?_
    have hengaged := State.enginesEngaged_of_channel hc (by rw [hgear]; rfl)
    rw [h] at hengaged
    cases hengaged

/-- The table of another id is not what the actuators are measured by. -/
theorem State.SteersSoundly.withTable (h : s.SteersSoundly) {t : TableId} {x : Table}
    (hx : t = .actuator → x.words = (s.table .actuator).words) : (s.withTable t x).SteersSoundly := by
  have hwords : ((s.withTable t x).table .actuator).words = (s.table .actuator).words := by
    rw [State.withTable_table]
    split
    · exact hx ‹_›
    · rfl
  have hentry : (s.withTable t x).actuatorEntry = s.actuatorEntry := by
    funext j
    refine State.actuatorEntry_congr ?_ j
    unfold State.entryWord Table.word
    rw [hwords]
  refine h.of_same rfl hentry rfl (funext fun j => ?_)
  have hbow : ((s.withTable t x).actuatorEntry j).bow = (s.actuatorEntry j).bow := by rw [hentry]
  rw [State.bowMade_eq, State.bowMade_eq]
  simp only [hbow, State.withTable_coup]

/-- The load slot and the indexes of the table memory are not read. -/
theorem State.SteersSoundly.of_tables (h : s.SteersSoundly) {m : TableUnit} (hm : m.tables = s.mgmt.tables) :
    ({ s with mgmt := m } : State).SteersSoundly := by
  have hentry : ({ s with mgmt := m } : State).actuatorEntry = s.actuatorEntry := by
    funext j
    refine State.actuatorEntry_congr ?_ j
    unfold State.entryWord State.table
    rw [hm]
  refine h.of_same rfl hentry rfl (funext fun j => ?_)
  have hbow : (({ s with mgmt := m } : State).actuatorEntry j).bow = (s.actuatorEntry j).bow := by rw [hentry]
  rw [State.bowMade_eq, State.bowMade_eq]
  simp only [hbow]

/-- An open ends the records of its unit; with ENGINE not in use no engine is in ASTERN before (R82, R105, R129, R186). -/
theorem State.SteersSoundly.openTable (h : s.SteersSoundly) {t : TableId} (n : Nat) (hfree : s.inUse t = false) :
    (s.openTable t n).SteersSoundly := by
  have hopened (ht : t ≠ .actuator) : ({ s.withTable t (loadingTable t n) with mgmt :=
      { (s.withTable t (loadingTable t n)).mgmt with loadSlot := some t, writeIndex := 0 } } : State).SteersSoundly :=
    (h.withTable fun hact => absurd hact ht).of_tables rfl
  unfold State.openTable
  cases t with
  | actuator => exact State.SteersSoundly.of_none fun j => replicate_get _ j
  | engine => exact (hopened (by decide)).dropChannels (State.no_astern_of_disengaged hfree)
  | coupling => exact (hopened (by decide)).steered.dropCouplings
  | tank => exact (hopened (by decide)).of_units rfl rfl rfl rfl
  | _ => exact hopened (by decide)

theorem State.SteersSoundly.tableOpen (h : s.SteersSoundly) (args : List Byte) : (s.tableOpen args).state.SteersSoundly := by
  unfold State.tableOpen State.needs
  (repeat' split)
  case h_2.isFalse hfree => exact h.openTable _ (by simpa using hfree)
  all_goals exact h

/-- Words are stored in the table being loaded: if it is ACTUATOR, there is no actuator (R187). -/
theorem State.SteersSoundly.tableWrite (h : s.SteersSoundly) (htables : s.TablesFit) (hrecords : s.RecordsFit)
    (args : List Byte) : (s.tableWrite args).state.SteersSoundly := by
  unfold State.tableWrite
  split
  · exact h
  · rename_i t hslot
    have hloading : (s.table t).state = .loading := (htables.each t).held_iff.mp hslot
    dsimp only
    split_ifs
    · exact h
    · exact h
    · by_cases ht : t = .actuator
      · subst ht
        exact State.SteersSoundly.of_none fun j => State.no_actuator_of_not_ready hrecords (by simp [hloading]) j
      · exact (h.withTable fun hact => absurd hact ht).of_tables rfl

/-- The end of a load leaves the words of every table. -/
theorem State.SteersSoundly.endLoad (h : s.SteersSoundly) (t : TableId) (st : TableState) (cause : Cause) :
    (s.endLoad t st cause).SteersSoundly :=
  (h.withTable (x := { s.table t with state := st, cause := cause }) fun ht => by rw [ht]).of_tables rfl

/-- The reading unit of a table that becomes READY; for ENGINE no engine was in ASTERN before (R64, R105, R130). -/
theorem State.SteersSoundly.afterReady (h : s.SteersSoundly) (t : TableId)
    (hnone : t = .engine → ∀ e, s.inAstern e = false) : (s.afterReady t).SteersSoundly := by
  cases t with
  | engine => exact h.createChannels (hnone rfl)
  | actuator => exact s.createActuators_steersSoundly
  | coupling => exact h.steered.createCouplings
  | _ =>
    exact h.of_units (by simp [State.afterReady]) (by simp [State.afterReady]) (by simp [State.afterReady])
      (by simp [State.afterReady])

theorem State.SteersSoundly.tableClose (h : s.SteersSoundly) (htables : s.TablesFit) (hrecords : s.RecordsFit)
    (args : List Byte) : (s.tableClose args).state.SteersSoundly := by
  unfold State.tableClose State.needs
  (repeat' split)
  · exact h
  · exact h
  · rename_i t hslot _ _
    refine (h.endLoad t .ready .none).afterReady t fun ht e => ?_
    subst ht
    have hloading : (s.table .engine).state = .loading := (htables.each .engine).held_iff.mp hslot
    exact State.no_astern_of_not_ready hrecords (by simp [hloading]) e
  · exact (h.endLoad _ .rejected _).of_units rfl rfl rfl rfl

end Tables

/-! ### The other commands (R193) -/

section Answers

variable {s : State}

theorem State.SteersSoundly.needs (h : s.SteersSoundly) (n : Nat) (args : List Byte) {a : Answer}
    (ha : a.state.SteersSoundly) : (s.needs n args a).state.SteersSoundly := by
  unfold State.needs
  split
  · exact h
  · exact ha

theorem State.SteersSoundly.storeParam (h : s.SteersSoundly) (p : Param) (v : Nat) : (s.storeParam p v).SteersSoundly := by
  unfold State.storeParam
  dsimp only
  split
  · refine State.SteersSoundly.checkLock ?_ _
    exact h.of_same rfl rfl rfl rfl
  · exact h.of_same rfl rfl rfl rfl

theorem State.SteersSoundly.zeroed (h : s.SteersSoundly) (c : Counter) : (s.zeroed c).SteersSoundly := by
  cases c <;> exact h.of_units rfl rfl rfl rfl

/-- Every management command keeps the actuators sound: those that load a table and those on couplings and actuators by the
lemmas above, a parameter stored by the release controller's telling, the rest touch none of what is read. -/
theorem State.SteersSoundly.commandBody (h : s.SteersSoundly) (htables : s.TablesFit) (hrecords : s.RecordsFit)
    (code : Nat) (args : List Byte) : (commandBody code args s).state.SteersSoundly := by
  have told (i : Fin 48) (r : CouplingRecord) : (s.withCoupling i r).afterChange.SteersSoundly :=
    State.Steered.afterChange (h.steered.of_units rfl rfl rfl)
  unfold Machine.commandBody
  split
  case h_1 => exact h.tableOpen args
  case h_2 => exact h.tableWrite htables hrecords args
  case h_3 => exact h.tableClose htables hrecords args
  case h_4 =>
    refine h.needs _ args ?_
    (repeat' split)
    · exact h
    · exact h
    · exact h.of_tables rfl
  case h_5 =>
    unfold State.tableRead
    dsimp only
    (repeat' split)
    · exact h
    · exact h
    · exact h.of_tables rfl
  case h_12 =>
    exact h.of_units (by simp [State.snapCapture]) (by simp [State.snapCapture]) (by simp [State.snapCapture])
      (by simp [State.snapCapture])
  case h_21 => exact h
  case h_7 =>
    refine h.needs _ args ?_
    split
    · exact h
    · exact h.storeParam _ _
  case h_10 =>
    refine h.needs _ args ?_
    split
    · exact h
    · rename_i c _
      split_ifs
      · exact h
      · exact h.zeroed c
      · exact h
  case h_16 =>
    refine h.needs _ args ?_
    (repeat' split)
    case h_2 =>
      rw [State.says_state]
      exact h.steered.acceptRelease _
    all_goals exact h
  case h_17 =>
    refine h.needs _ args ?_
    split
    · exact h
    · split_ifs
      · exact h
      · exact h
      · rw [State.says_state]
        exact told _ _
  case h_18 =>
    refine h.needs _ args ?_
    split
    · exact h
    · split_ifs
      · exact h
      · rw [State.says_state]
        exact told _ _
  case h_20 =>
    refine h.needs _ args ?_
    split
    · exact h
    · split
      · exact h
      · rename_i a ha
        split_ifs with hfault
        · exact h.realign ha hfault
        · exact h
  all_goals
    refine h.needs _ args ?_
    (repeat' split) <;> exact h.of_units (by simp) (by simp) (by simp) (by simp)

end Answers

/-! ### Restarts (R106, R198, R199) -/

/-- After a warm restart every record is in ALIGN at target 0, and the steering unit is told (R97, R106). -/
theorem State.warm_steersSoundly (straps : Straps) (s : State) : (s.warm straps).SteersSoundly := by
  rw [State.warm_eq_restartSteering]
  refine State.Steered.tellSteering fun j b hb => ?_
  dsimp only at hb
  split at hb
  · rw [remap_get] at hb
    obtain ⟨a, -, rfl⟩ := Option.map_eq_some_iff.mp hb
    exact ⟨fun _ _ => rfl, fun h => absurd h (by simp [Actuator.restarted, Actuator.align]),
      fun h => absurd h (by simp [Actuator.restarted, Actuator.align])⟩
  · rw [replicate_get] at hb
    cases hb

/-! ### The step -/

/-- Every rule of the units keeps the actuators sound. -/
theorem State.SteersSoundly.rulesGive {s : State} (h : s.SteersSoundly) (htables : s.TablesFit) (hrecords : s.RecordsFit) :
    s.RulesGive State.SteersSoundly where
  free hu ht := ht.of_units hu.steer hu.prop hu.coup hu.mgmt
  idle := h
  command code args := h.commandBody htables hrecords code args
  lever ch data := h.stationFrame .lever ch data fun i _ ht => ht.leverFrom data i
  helm ch data := h.stationFrame .helm ch data fun i _ ht => ht.helmFrom data i
  take ch data := h.stationFrame .take ch data fun i _ ht => ht.takeFrom data i
  watch ch data := h.stationFrame .watch ch data fun i _ ht => ht.watchFrom i
  govReport ch data := h.takeGovReport ch data
  rudReport p ch data := h.takeRudReport p ch data
  coupleReport ch data := h.takeCoupleReport ch data
  flow ch data := h.of_units (by simp) (by simp) (by simp) (by simp)
  ramp := h.rampExpiry
  dwell e t ht := by
    obtain rfl := Host.Outcome.next.inj ht
    split
    · exact h
    · refine h.onChannel e fun c => ?_
      split_ifs with _ hgear
      · rfl
      · simp [hgear]
      · rfl
  freshness e t ht := by
    have hheld (load : Nat) (c : EngineChannel) : (c.hold load).gear = c.gear := by
      unfold EngineChannel.hold
      split <;> rfl
    obtain rfl := Host.Outcome.next.inj ht
    split
    · exact h
    · split
      · exact h
      · rename_i c hc
        split
        · exact h
        · exact (h.withChannel hc (by rw [hheld])).of_units rfl rfl rfl rfl
  hold e t ht := by
    obtain rfl := Host.Outcome.next.inj ht
    split
    · exact h
    · refine h.onChannel e fun c => ?_
      split <;> rfl
  steering := h.steeringExpiry
  helmTimer t ht := by
    obtain rfl := Host.Outcome.next.inj ht
    split
    · exact h
    · exact h.of_same rfl rfl rfl rfl
  poll := h.pollExpiry
  release t ht := by
    obtain rfl := Host.Outcome.next.inj ht
    split
    · exact h
    · split
      · exact h.of_same rfl rfl rfl rfl
      · exact h.steered.failRelease _
  coldStart straps := State.SteersSoundly.of_none fun j => replicate_get _ j
  warm straps := s.warm_steersSoundly straps

/-- Settles O57: a step idles, or carries out the front command. -/
theorem everyStepKeepsSteering : Obligations.EveryStepKeepsSteering := by
  intro s t htables hrecords hs hstep
  rw [State.tablesSound_iff] at htables
  rw [State.recordsSound_iff] at hrecords
  rw [State.steeringSound_iff] at hs ⊢
  unfold step at hstep
  split at hstep
  · obtain rfl := Host.Outcome.next.inj hstep
    exact hs
  · rename_i c rest _
    have hrest : ({ s with pending := rest } : State).SteersSoundly := hs.of_units rfl rfl rfl rfl
    exact (hrest.rulesGive ⟨htables.each, htables.within⟩ hrecords).exec c hstep

end Sys2Proof.Machine
end

section
/-! PROOF. The steering unit told of the couplings, as one update of the actuator records and of the frames waiting on T
(R14, R102, R103). -/

namespace Sys2Proof.Machine

/-! ### Waiting frames withdrawn (R14) -/

/-- A port unit with the waiting URGENT frames that pass a test. -/
def PortUnit.sift (keep : Frame → Bool) (p : PortUnit) : PortUnit :=
  { p with urgent := p.urgentInFlight ++ p.urgentWaiting.filter keep }

section Sifting

variable (keep keep' : Frame → Bool) (p : PortUnit)

theorem PortUnit.withdraw_eq (key : BitVec 11 × Option Byte) : p.withdraw key = p.sift fun f => decide (keyOf f ≠ key) := rfl

/-- The frame in flight, if any, stays. -/
@[simp] theorem PortUnit.sift_urgentInFlight : (p.sift keep).urgentInFlight = p.urgentInFlight := by
  by_cases h : p.inFlight = some .urgent
  · rcases hu : p.urgent with - | ⟨f, rest⟩ <;>
      simp [PortUnit.sift, PortUnit.urgentInFlight, PortUnit.urgentWaiting, h, hu]
  · simp [PortUnit.sift, PortUnit.urgentInFlight, h]

@[simp] theorem PortUnit.sift_urgentWaiting : (p.sift keep).urgentWaiting = p.urgentWaiting.filter keep := by
  by_cases h : p.inFlight = some .urgent
  · rcases hu : p.urgent with - | ⟨f, rest⟩ <;>
      simp [PortUnit.sift, PortUnit.urgentInFlight, PortUnit.urgentWaiting, h, hu]
  · simp [PortUnit.sift, PortUnit.urgentInFlight, PortUnit.urgentWaiting, h]

theorem PortUnit.sift_sift : (p.sift keep).sift keep' = p.sift fun f => keep f && keep' f := by
  have hwaiting : (p.urgentWaiting.filter keep).filter keep' = p.urgentWaiting.filter fun f => keep f && keep' f := by
    rw [List.filter_filter]
    simp only [Bool.and_comm]
  rw [PortUnit.sift, PortUnit.sift_urgentInFlight, PortUnit.sift_urgentWaiting, hwaiting]
  rfl

theorem PortUnit.sift_all : (p.sift fun _ => true) = p := by
  rw [PortUnit.sift, List.filter_true, PortUnit.urgent_split]

end Sifting

/-! ### One actuator brought in step -/

/-- Whether telling the steering unit gates an actuator: a BOW one that is not GATED and whose coupling is not MADE (R102). -/
def State.gates (s : State) (j : Fin 8) : Bool :=
  decide ((s.actuatorEntry j).kind = .bow) && !s.bowMade j &&
    (s.steer.actuators[j]).any fun a => decide (a.state ≠ .gated)

/-- Whether a waiting frame stays when a list of actuators is brought in step: no actuator that is gated has its key (R102). -/
def State.stays (s : State) (l : List (Fin 8)) (f : Frame) : Bool :=
  !(l.any fun j => s.gates j && decide (keyOf f = bowKey (s.actuatorEntry j).channel))

section Gating

variable {s : State} {j : Fin 8}

theorem State.gates_iff : s.gates j = true ↔ (s.actuatorEntry j).kind = .bow ∧ s.bowMade j = false ∧
    ∃ a, s.steer.actuators[j] = some a ∧ a.state ≠ .gated := by
  simp only [State.gates, Bool.and_eq_true, decide_eq_true_eq, Bool.not_eq_true', Option.any_eq_true, and_assoc]

/-- An actuator that is not GATED and is no BOW one, or whose coupling is MADE, is in step. -/
theorem State.gateActuator_open {a : Actuator} (ha : s.steer.actuators[j] = some a) (hopen : a.state ≠ .gated)
    (h : (s.actuatorEntry j).kind ≠ .bow ∨ s.bowMade j = true) : s.gateActuator j = s := by
  unfold State.gateActuator
  rw [ha]
  dsimp only
  split_ifs with hkind hmade
  · rfl
  · rfl
  · exact absurd h (by simp [hkind, hmade])

/-- A BOW actuator whose coupling is not MADE is gated, and its waiting BOW-SET is withdrawn (R102). -/
theorem State.gateActuator_gated {a : Actuator} (ha : s.steer.actuators[j] = some a) (hopen : a.state ≠ .gated)
    (hbow : (s.actuatorEntry j).kind = .bow) (hmade : s.bowMade j = false) :
    s.gateActuator j = (s.withActuator j a.gate).withdraw .t (bowKey (s.actuatorEntry j).channel) := by
  unfold State.gateActuator
  rw [ha]
  simp [hbow, hmade, hopen]

theorem State.gateActuator_comms (s : State) (j : Fin 8) : (s.gateActuator j).comms =
    if s.gates j then (s.withdraw .t (bowKey (s.actuatorEntry j).channel)).comms else s.comms := by
  split
  · rename_i h
    obtain ⟨hbow, hmade, a, ha, hopen⟩ := State.gates_iff.mp h
    rw [State.gateActuator_gated ha hopen hbow hmade]
    rfl
  · rename_i h
    unfold State.gateActuator
    split
    · rfl
    · rename_i a ha
      split_ifs with hkind hmade hgated hgated
      · rfl
      · rfl
      · rfl
      · rfl
      · exact absurd (State.gates_iff.mpr ⟨not_not.mp hkind, by simpa using hmade, a, ha, hgated⟩) h

theorem State.gates_gateActuator_other {k : Fin 8} (h : j ≠ k) : (s.gateActuator j).gates k = s.gates k := by
  have hmade := congrFun (State.bowMade_congr (s := s) (u := s.gateActuator j) (by simp) (by simp)) k
  rw [State.gates, State.gateActuator_other s h, hmade, State.actuatorEntry_of_mgmt (s := s) (by simp), State.gates]

end Gating

/-! ### The steering unit told -/

theorem State.foldl_gateActuator_comms {l : List (Fin 8)} (hl : l.Nodup) (s : State) :
    (l.foldl (fun t j => t.gateActuator j) s).comms = { s.comms with t := s.comms.t.sift (s.stays l) } := by
  induction l generalizing s with
  | nil =>
    have hall : s.stays [] = fun _ => true := rfl
    rw [hall, PortUnit.sift_all]
    rfl
  | cons k ks ih =>
    obtain ⟨hk, hks⟩ := List.nodup_cons.mp hl
    have hrest : (s.gateActuator k).stays ks = s.stays ks := by
      funext f
      rw [Bool.eq_iff_iff]
      simp only [State.stays, Bool.not_eq_true', List.any_eq_false]
      refine forall₂_congr fun j hj => ?_
      rw [State.gates_gateActuator_other (j := k) (k := j) fun h => hk (h ▸ hj), State.actuatorEntry_of_mgmt (s := s) (by simp)]
    have hcons : s.stays (k :: ks) = fun f =>
        !(s.gates k && decide (keyOf f = bowKey (s.actuatorEntry k).channel)) && s.stays ks f := by
      funext f
      rw [State.stays, List.any_cons, Bool.not_or, State.stays]
    rw [List.foldl_cons, ih hks, hrest, State.gateActuator_comms, hcons]
    cases hgates : s.gates k with
    | false => simp only [Bool.false_eq_true, if_false, Bool.false_and, Bool.not_false, Bool.true_and]
    | true =>
      simp only [if_true, Bool.true_and, ← decide_not]
      rw [← PortUnit.sift_sift, ← PortUnit.withdraw_eq]
      rfl

/-- Telling the steering unit changes the actuator records, and on T the frames that wait (R102, R103). -/
theorem State.tellSteering_eq_update (s : State) : s.tellSteering = { s with
    steer := { s.steer with actuators := s.tellSteering.steer.actuators }
    comms := { s.comms with t := s.comms.t.sift (s.stays (List.finRange 8)) } } := by
  have hcomms : s.tellSteering.comms = { s.comms with t := s.comms.t.sift (s.stays (List.finRange 8)) } :=
    State.foldl_gateActuator_comms (List.nodup_finRange 8) s
  have hsteer : s.tellSteering.steer = { s.steer with actuators := s.tellSteering.steer.actuators } := by
    dsimp only
    rw [← s.tellSteering_steeringTimer, ← s.tellSteering_helmFresh, ← s.tellSteering_helmTimer]
  have hunits : s.tellSteering = { s with steer := s.tellSteering.steer, comms := s.tellSteering.comms } := by
    refine List.foldlRecOn (motive := fun t : State => t = { s with steer := t.steer, comms := t.comms })
      (List.finRange 8) _ rfl fun t ht j _ => ?_
    unfold State.gateActuator
    (repeat' split)
    · exact ht
    · exact ht
    · rw [ht]; rfl
    · exact ht
    · exact ht
    · rw [ht]; rfl
  rw [← hsteer, ← hcomms]
  exact hunits

/-- Settles O25. -/
theorem bowActuatorsFollowTheirCoupling : Obligations.BowActuatorsFollowTheirCoupling := by
  intro s made still gates
  have hmade (j : Fin 8) : made j ↔ s.bowMade j = true := (s.bowMade_iff rfl rfl).symm
  have hgates (j : Fin 8) : gates j ↔ s.gates j = true := by
    rw [State.gates_iff, ← Bool.not_eq_true, ← hmade]
  refine ⟨s.tellSteering.steer.actuators, s.comms.t.urgentWaiting.filter (s.stays (List.finRange 8)),
    s.tellSteering_eq_update, fun j hj => ?_, fun j a ha hkind => ?_, fun j a ha hkind hm => ?_, fun j a ha hkind hm => ?_,
    List.filter_sublist, fun f hf => ?_⟩
  · rw [s.tellSteering_actuator, hj]
    rfl
  · rw [s.tellSteering_actuator, ha, Option.map_some, State.gating, if_pos hkind]
  · rw [s.tellSteering_actuator, ha, Option.map_some, State.gating, if_neg (not_not.mpr hkind), if_pos ((hmade j).mp hm)]
    rfl
  · rw [s.tellSteering_actuator, ha, Option.map_some, State.gating, if_neg (not_not.mpr hkind), if_neg (mt (hmade j).mpr hm)]
    rfl
  · have hkeys (j : Fin 8) : bowKey (s.actuatorEntry j).channel = keyOf (frameOf 3 (s.actuatorEntry j).channel []) := rfl
    simp [List.mem_filter, hf, State.stays, hgates, hkeys]

end Sys2Proof.Machine
end

section
/-! PROOF. COUPLE-DETACH, COUPLE-ATTACH, POLL-NOW and ACTUATOR-RESET by their tables (R101, R102, R114, R121, R122). -/

namespace Sys2Proof.Machine

/-! ### A command by what its rule answers (R193) -/

section Answering

variable {s t : State} {args : List Byte}

/-- A command taken whose rule answers at once leaves what the rule leaves, with the REPLY offered. -/
theorem State.managed_says (tag : Byte) {body : State → Answer} {st : Status} {fields : List Byte} (h : s.listens)
    (hb : body s = t.says st fields) (hc : t.channel = s.channel) : s.managed tag body = t.replied tag st fields := by
  rw [State.managed_taken tag body h, hb, State.replied, hc]
  rfl

/-- An index byte that names no record (R135). -/
theorem State.couplingNamed_none {v : Nat} (h : ∀ i : Fin 48, i.val = v → s.coup.records[i] = none) :
    s.couplingNamed v = none := by
  unfold State.couplingNamed
  split
  · rfl
  · rename_i i hi
    rw [h i (index?_eq_some.mp hi).symm]
    rfl

theorem State.couplingNamed_some {i : Fin 48} {r : CouplingRecord} (hr : s.coup.records[i] = some r) :
    s.couplingNamed i.val = some (i, r) := by
  rw [State.couplingNamed, index?_eq_some.mpr rfl]
  exact congrArg (Option.map fun r => (i, r)) hr

end Answering

/-! ### The three commands on couplings (R114, R121, R122) -/

section Couplings

variable {s : State} {args : List Byte} (hlen : 1 ≤ args.length)

include hlen

theorem State.coupling_commands_none (h : ∀ i : Fin 48, i.val = byteAt args 0 → s.coup.records[i] = none) :
    s.detachCoupling args = s.says .badIndex [] ∧ s.attachCoupling args = s.says .badIndex [] ∧
      s.pollOne args = s.says .badIndex [] := by
  rw [State.detachCoupling, State.attachCoupling, State.pollOne, State.needs_met _ _ hlen, State.needs_met _ _ hlen,
    State.needs_met _ _ hlen, State.couplingNamed_none h]
  exact ⟨rfl, rfl, rfl⟩

variable {i : Fin 48} {r : CouplingRecord} (hi : i.val = byteAt args 0) (hr : s.coup.records[i] = some r)

include hi hr

theorem State.detachCoupling_named : s.detachCoupling args =
    if r.state = .releasing then s.says .busy [] else if r.state = .released then s.says .ok []
    else (s.withCoupling i { r with state := .released }).afterChange.says .ok [] := by
  rw [State.detachCoupling, State.needs_met _ _ hlen, ← hi, State.couplingNamed_some hr]

theorem State.attachCoupling_named : s.attachCoupling args =
    if r.state ≠ .released then s.says .badState []
    else (s.withCoupling i { r with state := .unknown, age := 0 }).afterChange.says .ok [] := by
  rw [State.attachCoupling, State.needs_met _ _ hlen, ← hi, State.couplingNamed_some hr]

theorem State.pollOne_named : s.pollOne args =
    if r.state = .released then s.says .badState [] else (s.offerLow .t .routine (s.couplePoll i)).says .ok [] := by
  rw [State.pollOne, State.needs_met _ _ hlen, ← hi, State.couplingNamed_some hr]

end Couplings

/-! ### ACTUATOR-RESET (R101) -/

theorem State.withActuator_withActuator (j : Fin 8) (a b : Actuator) (s : State) :
    (s.withActuator j a).withActuator j b = s.withActuator j b := by
  simp only [State.withActuator, put_put]

section Actuators

variable {s : State} {args : List Byte} (hlen : 1 ≤ args.length)

include hlen

theorem State.resetActuator_none (h : ∀ j : Fin 8, j.val = byteAt args 0 → s.steer.actuators[j] = none) :
    s.resetActuator args = s.says .badIndex [] := by
  rw [State.resetActuator, State.needs_met _ _ hlen]
  split
  · rfl
  · rename_i j hj
    rw [h j (index?_eq_some.mp hj).symm]

variable {j : Fin 8} {a : Actuator} (hj : j.val = byteAt args 0) (ha : s.steer.actuators[j] = some a)

include hj ha

theorem State.resetActuator_named : s.resetActuator args =
    if a.state = .fault then ((s.withActuator j (a.align a.output)).gateActuator j).says .ok []
    else s.says .badState [] := by
  rw [State.resetActuator, State.needs_met _ _ hlen, index?_eq_some.mpr hj.symm]
  dsimp only
  rw [ha]

end Actuators

/-- Settles O46. -/
theorem detachAttachPollAndReset : Obligations.DetachAttachPollAndReset := by
  refine ⟨fun tag args s hs hlen => ?_, fun tag args s hs hlen => ?_⟩
  · intro k detach attach poll
    have answered {t : State} {body : State → Answer} {st : Status} (hb : body s = t.says st [])
        (hc : t.channel = s.channel) : Host.Outcome.next (s.managed tag body) =
          (.next (t.replied tag st []) : Host.Outcome State Fault Refusal) :=
      congrArg _ (State.managed_says tag hs hb hc)
    refine ⟨?_, ?_⟩
    · intro hnone
      obtain ⟨hdetach, hattach, hpoll⟩ := State.coupling_commands_none hlen hnone
      exact ⟨answered hdetach rfl, answered hattach rfl, answered hpoll rfl⟩
    · intro i r hi hr with_ frame
      have hdetach := State.detachCoupling_named hlen hi hr
      have hattach := State.attachCoupling_named hlen hi hr
      have hpoll := State.pollOne_named hlen hi hr
      refine ⟨fun h => ?_, fun h => ?_, fun h h' => ?_, fun h => ?_, fun h => ?_, fun h => ?_, fun h => ?_⟩
      · exact answered (hdetach.trans (if_pos h)) rfl
      · exact answered (hdetach.trans ((if_neg (by simp [h])).trans (if_pos h))) rfl
      · exact answered (hdetach.trans ((if_neg h).trans (if_neg h'))) (State.afterChange_channel _)
      · exact answered (hattach.trans (if_pos h)) rfl
      · exact answered (hattach.trans (if_neg (not_not.mpr h))) (State.afterChange_channel _)
      · exact answered (hpoll.trans (if_pos h)) rfl
      · exact answered (hpoll.trans (if_neg h)) rfl
  · intro k out
    refine ⟨?_, ?_⟩
    · intro hnone
      exact congrArg _ (State.managed_says tag hs (State.resetActuator_none hlen hnone) rfl)
    · intro j a hj ha x made with_ still
      have hreset := State.resetActuator_named hlen hj ha
      have hstored : (s.withActuator j (a.align a.output)).steer.actuators[j] = some (a.align a.output) :=
        put_get_same _ _ _
      have hopen : (a.align a.output).state ≠ .gated := by simp [Actuator.align]
      have hmade : made ↔ (s.withActuator j (a.align a.output)).bowMade j = true := (s.bowMade_iff rfl rfl).symm
      refine ⟨fun h => ?_, fun h hstep => ?_, fun h hbow hm => ?_⟩
      · exact congrArg _ (State.managed_says tag hs (hreset.trans (if_neg h)) rfl)
      · rw [if_pos h, State.gateActuator_open hstored hopen (hstep.imp_right hmade.mp)] at hreset
        exact congrArg _ (State.managed_says tag hs hreset rfl)
      · rw [if_pos h, State.gateActuator_gated hstored hopen hbow (by simpa using mt hmade.mpr hm),
          State.withActuator_withActuator] at hreset
        exact congrArg _ (State.managed_says tag hs hreset rfl)

end Sys2Proof.Machine
end

section
/-! PROOF. A steering-timer expiry in the words of the statement SteeringTimerStepsEveryActuator: the entry in use, and what
each actuator takes from the state before the expiry (R86 to R93, R100, R104; log entries 6 and 8). -/

namespace Sys2Proof.Machine

/-- Two ways to take a list in turn come to the same when their steps agree wherever a property holds that each step keeps. -/
theorem foldl_agree {σ α : Type} {P : σ → Prop} {f g : σ → α → σ} (hstep : ∀ t x, P t → f t x = g t x)
    (hkeep : ∀ t x, P t → P (g t x)) (l : List α) {s : σ} (hs : P s) : l.foldl f s = l.foldl g s := by
  induction l generalizing s with
  | nil => rfl
  | cons x xs ih => rw [List.foldl_cons, List.foldl_cons, hstep s x hs, ih (hkeep s x hs)]

/-! ### The entry in use (R86) -/

/-- An actuator is enabled by the words of its entry in a READY table (R85). -/
theorem State.actuatorEnabled_iff (s : State) (j : Fin 8) :
    s.actuatorEnabled j = true ↔ (s.table .actuator).state = .ready ∧ j.val < (s.table .actuator).count ∧
      s.entryWord .actuator j.val 0 ≠ 0 := by
  simp [State.actuatorEnabled, State.reaches_iff, and_assoc]

theorem actuatorKindOf_eq_bow (v : Nat) : actuatorKindOf v = .bow ↔ v = 2 := by
  unfold actuatorKindOf
  split_ifs <;> simp_all

/-- The greatest limit of an entry is 1000 for BOW and 450 for the other kinds (R86). -/
theorem State.actuatorEntry_limit (s : State) (j : Fin 8) : (s.actuatorEntry j).limit =
    min (if s.entryWord .actuator j.val 1 = 2 then 1000 else 450) (s.entryWord .actuator j.val 6) := by
  show (if actuatorKindOf (s.entryWord .actuator j.val 1) = .bow then min 1000 (s.entryWord .actuator j.val 6)
    else min 450 (s.entryWord .actuator j.val 6)) = _
  simp only [actuatorKindOf_eq_bow]
  split <;> rfl

/-! ### One stepping (R92, R104) -/

/-- One stepping and the cut to the limit: the output is the stepped position clamped, and a cut drops the remainder (R92). -/
theorem Actuator.stepped_eq (target : Int) (limit rate elapsed : Nat) (a : Actuator) :
    a.stepped target limit rate elapsed =
      let n := rampStep target rate rate elapsed { pos := a.output, rem := a.remainder, dir := a.ramp }
      { a with target := target, output := max (-(limit : Int)) (min limit n.pos), ramp := n.dir,
               remainder := if (limit : Int) < n.pos ∨ n.pos < -(limit : Int) then 0 else n.rem } := by
  unfold Actuator.stepped
  dsimp only
  generalize rampStep target rate rate elapsed { pos := a.output, rem := a.remainder, dir := a.ramp } = n
  split
  · rename_i hcut
    have hout : (limit : Int) < n.pos ∨ n.pos < -(limit : Int) := by omega
    have hclamp : (if n.pos < 0 then -(limit : Int) else (limit : Int)) = max (-(limit : Int)) (min limit n.pos) := by
      split <;> omega
    rw [if_pos hout, hclamp]
  · rename_i hcut
    have hin : ¬((limit : Int) < n.pos ∨ n.pos < -(limit : Int)) := by omega
    have hclamp : n.pos = max (-(limit : Int)) (min limit n.pos) := by omega
    rw [if_neg hin, ← hclamp]

/-- BOW_ACTIVE that comes about is told to the release controller (R104). -/
theorem State.watchBow_eq (before after : State) : State.watchBow before after =
    if before.bowActive = false ∧ after.bowActive = true then after.checkLock .bowActive else after := by
  unfold State.watchBow
  cases before.bowActive <;> cases after.bowActive <;> rfl

/-! ### The whole expiry (R88) -/

/-- Settles O55: what an actuator takes at its turn is as it was before the expiry, for no turn changes tables, engines or
stations. -/
theorem steeringTimerStepsEveryActuator : Obligations.SteeringTimerStepsEveryActuator := by
  refine ⟨fun j s => ?_, ?_⟩
  · exact ⟨rfl, rfl, rfl, rfl, rfl, s.actuatorEntry_limit j, rfl, rfl, s.actuatorEnabled_iff j⟩
  · intro s hs level turn
    have hturn (t : State) (j : Fin 8) (ht : t.mgmt = s.mgmt ∧ t.prop = s.prop ∧ t.station = s.station) :
        turn t j = t.steerActuator level s.steer.steeringTimer j := by
      obtain ⟨hmgmt, hprop, hstation⟩ := ht
      have hentry : t.actuatorEntry j = s.actuatorEntry j := State.actuatorEntry_of_mgmt hmgmt j
      have hastern : t.inAstern = s.inAstern := State.inAstern_congr hprop
      have hengine (e : Fin 4) : ((s.prop.channels[e]).map fun c => decide (c.gear = .astern)).getD false = s.inAstern e := by
        rw [State.inAstern]
        cases s.prop.channels[e] <;> rfl
      have htarget : t.steerTarget level j = s.steerTarget level j := by
        rw [State.steerTarget, hentry, hastern, hstation, State.steerTarget]
      cases ha : t.steer.actuators[j] with
      | none => simp only [turn, State.steerActuator, ha]
      | some a =>
        obtain ⟨state, target, output, remainder, ramp, count, lastReported, reported⟩ := a
        simp only [turn, State.steerActuator, ha, hengine, hentry, htarget]
        cases state with
        | align => rfl
        | gated => rfl
        | fault => rfl
        | following =>
          dsimp only
          rw [State.watchBow_eq, Actuator.stepped_eq]
          rfl
    have hrun : exec .steeringTimerExpiry s = .next s.steeringExpiry := by
      show Host.Outcome.next (if s.restart.isSome then s else s.steeringExpiry) = _
      rw [hs]
      rfl
    rw [hrun, State.steeringExpiry]
    refine congrArg Host.Outcome.next (foldl_agree (P := fun t => t.mgmt = s.mgmt ∧ t.prop = s.prop ∧ t.station = s.station)
      hturn (fun t j ht => ?_) _ ⟨rfl, rfl, rfl⟩).symm
    simpa using ht

end Sys2Proof.Machine
end

section
/-! PROOF. A RUD-REPORT by the records it leaves: one actuator taking it, several in turn where no release is aborted, and the
statement RudReportAlignsAndSupervises (R98, R99, R104, R139; log entries 4 and 20). -/

namespace Sys2Proof.Machine

/-! ### The record after a report (R98, R99) -/

/-- Whether a report takes an actuator to FAULT (R99). -/
def State.fails (s : State) (v : Int) (a : Actuator) : Bool :=
  decide (a.state = .following ∧ s.params.followCount ≤ followCountAfter s.params.followWindow v a.output a.count)

/-- An actuator record after a report (R98, R99). -/
def State.reported (s : State) (v : Int) (j : Fin 8) (a : Actuator) : Actuator :=
  match a.state with
  | .align => s.aligned j v { a with lastReported := v, reported := true }
  | .following =>
    let n := followCountAfter s.params.followWindow v a.output a.count
    { a with lastReported := v, reported := true, count := n,
             state := if s.params.followCount ≤ n then .fault else .following }
  | .fault => { a with lastReported := v, reported := true }
  | .gated => { a with lastReported := v, reported := true }

section Reporting

variable {s : State} {v : Int} {j : Fin 8} {a : Actuator}

theorem State.reported_align (h : a.state = .align) :
    s.reported v j a = s.aligned j v { a with lastReported := v, reported := true } := by
  rw [State.reported, h]

/-- A report stores the record; BOW_ACTIVE that comes about by an alignment is told to the release controller, and a failure is
raised (R98, R99, R104). -/
theorem State.reportTo_some (ha : s.steer.actuators[j] = some a) : s.reportTo v j =
    if a.state = .align ∧ s.bowActive = false ∧ (s.withActuator j (s.reported v j a)).bowActive = true then
      (s.withActuator j (s.reported v j a)).checkLock .bowActive
    else if s.fails v a then (s.withActuator j (s.reported v j a)).raise .actuatorFault j.val
    else s.withActuator j (s.reported v j a) := by
  obtain ⟨state, target, output, remainder, ramp, count, lastReported, reported⟩ := a
  simp only [State.reportTo, State.fails, State.reported, State.watchBow_eq, ha]
  cases state with
  | align => simp
  | fault => simp
  | gated => simp
  | following =>
    by_cases hfails : s.params.followCount ≤ followCountAfter s.params.followWindow v output count
    · simp [hfails]
    · simp [hfails]

theorem State.reportTo_none (ha : s.steer.actuators[j] = none) : s.reportTo v j = s := by
  rw [State.reportTo, ha]

end Reporting

/-! ### BOW_ACTIVE (R104) -/

theorem State.bowActive_iff (s : State) : s.bowActive = true ↔ ∃ (j : Fin 8) (a : Actuator),
    s.steer.actuators[j] = some a ∧ (s.actuatorEntry j).kind = .bow ∧ a.output ≠ 0 := by
  have hone (x : Option Actuator) (k : ActuatorKind) : (match x with
      | some a => decide (k = .bow) && decide (a.output ≠ 0)
      | none => false) = true ↔ ∃ a, x = some a ∧ k = .bow ∧ a.output ≠ 0 := by
    cases x <;> simp
  simp only [State.bowActive, List.any_eq_true, List.mem_finRange, true_and]
  exact exists_congr fun j => hone _ _

/-- BOW_ACTIVE comes about by a record only if it is a BOW one at an output off 0 (R104). -/
theorem State.bowActive_withActuator {s : State} {j : Fin 8} {b : Actuator} (h : (s.withActuator j b).bowActive = true) :
    s.bowActive = true ∨ (s.actuatorEntry j).kind = .bow ∧ b.output ≠ 0 := by
  obtain ⟨k, c, hc, hkind, hout⟩ := (State.bowActive_iff _).mp h
  change (put s.steer.actuators j (some b))[k] = some c at hc
  rw [put_get] at hc
  split at hc
  · rename_i hk
    subst hk
    exact .inr ⟨hkind, Option.some.inj hc ▸ hout⟩
  · exact .inl ((State.bowActive_iff s).mpr ⟨k, c, hc, hkind, hout⟩)

/-- The release controller does nothing when no release in hand is locked by the condition (R139). -/
theorem State.checkLock_unlocked {c : Interlock} {s : State}
    (h : ∀ i, s.coup.slot = some i → ¬(s.couplingEntry i).hasLock c = true) : s.checkLock c = s := by
  rcases s.checkLock_cases c with heq | ⟨i, hslot, hlock, -, -⟩
  · exact heq
  · exact absurd hlock (h i hslot)

/-! ### Several actuators, where no release is aborted (R99) -/

/-- The state with other actuator records. -/
def State.withActuators (v : Vector (Option Actuator) 8) (s : State) : State :=
  { s with steer := { s.steer with actuators := v } }

/-- An actuator whose alignment cannot abort a release: none in hand is locked by BOW_ACTIVE, or it is no BOW one in ALIGN that
would come off 0 (R104, R139). -/
def State.Harmless (s : State) (v : Int) (j : Fin 8) : Prop :=
  (∃ i, s.coup.slot = some i ∧ (s.couplingEntry i).hasLock .bowActive = true) →
    ∀ a, s.steer.actuators[j] = some a → a.state = .align → (s.actuatorEntry j).kind = .bow → (s.reported v j a).output = 0

section Turns

variable {s : State} {v : Int} {j : Fin 8} {a : Actuator}

/-- A turn that aborts nothing stores the record, and a failure is raised (R98, R99). -/
theorem State.reportTo_harmless (h : s.Harmless v j) (ha : s.steer.actuators[j] = some a) : s.reportTo v j =
    if s.fails v a then (s.withActuator j (s.reported v j a)).raise .actuatorFault j.val
    else s.withActuator j (s.reported v j a) := by
  rw [State.reportTo_some ha]
  split
  · rename_i hactive
    obtain ⟨halign, hbefore, hafter⟩ := hactive
    rw [if_neg (by simp [State.fails, halign])]
    refine State.checkLock_unlocked fun i hslot hlock => ?_
    rcases State.bowActive_withActuator hafter with hactive | ⟨hkind, hout⟩
    · exact absurd hactive (by simp [hbefore])
    · exact hout (h ⟨i, hslot, hlock⟩ a ha halign hkind)
  · rfl

/-- The actuators that a report takes to FAULT (R99). -/
def State.failing (s : State) (v : Int) (j : Fin 8) : Bool := (s.steer.actuators[j]).any (s.fails v)

/-- What a report makes of a record is read from the tables, the engines and the parameters. -/
theorem State.reported_congr {u : State} (hm : u.mgmt = s.mgmt) (hp : u.prop = s.prop) (hq : u.params = s.params) :
    u.reported v = s.reported v := by
  funext j a
  simp only [State.reported, State.aligned, State.actuatorEntry_of_mgmt hm, State.inAstern_congr hp, hq]

theorem State.failing_congr {u : State} (hq : u.params = s.params) (ha : u.steer.actuators[j] = s.steer.actuators[j]) :
    u.failing v j = s.failing v j := by
  have hfails : u.fails v = s.fails v := by
    funext a
    rw [State.fails, hq, State.fails]
  rw [State.failing, ha, hfails, State.failing]

theorem State.Harmless.of_read {u : State} (h : s.Harmless v j) (ha : u.steer.actuators[j] = s.steer.actuators[j])
    (hc : u.coup = s.coup) (hm : u.mgmt = s.mgmt) (hr : u.reported v = s.reported v) : u.Harmless v j := by
  have hentry (i : Fin 48) : u.couplingEntry i = s.couplingEntry i := by
    rw [State.couplingEntry, State.table_of_mgmt hm, State.couplingEntry]
  unfold State.Harmless
  simp only [ha, hc, hr, hentry, State.actuatorEntry_of_mgmt hm]
  exact h

/-- Actuators that take a report in turn, aborting nothing: their records are stored, and the failures are raised in order
(R98, R99; log entry 20). -/
theorem State.foldl_reportTo {l : List (Fin 8)} (hl : l.Nodup) (s : State) (h : ∀ j ∈ l, s.Harmless v j) :
    l.foldl (State.reportTo v) s = (l.filter (s.failing v)).foldl (fun t j => t.raise .actuatorFault j.val)
      (s.withActuators (remap s.steer.actuators fun j x => if j ∈ l then x.map (s.reported v j) else x)) := by
  induction l generalizing s with
  | nil =>
    have hsame : remap s.steer.actuators (fun j x => if j ∈ [] then x.map (s.reported v j) else x) = s.steer.actuators :=
      vector_ext fun j => by simp
    rw [hsame]
    rfl
  | cons k ks ih =>
    obtain ⟨hk, hks⟩ := List.nodup_cons.mp hl
    have hrest (j : Fin 8) (hj : j ∈ ks) := h j (List.mem_cons_of_mem k hj)
    rw [List.foldl_cons]
    cases ha : s.steer.actuators[k] with
    | none =>
      have hsame : remap s.steer.actuators (fun j x => if j ∈ k :: ks then x.map (s.reported v j) else x) =
          remap s.steer.actuators fun j x => if j ∈ ks then x.map (s.reported v j) else x := by
        refine vector_ext fun j => ?_
        rw [remap_get, remap_get]
        by_cases hj : j = k
        · rw [hj, ha]
          simp
        · simp [hj]
      rw [State.reportTo_none ha, ih hks s hrest, hsame, List.filter_cons_of_neg (by simp [State.failing, ha])]
    | some a =>
      have hturn := State.reportTo_harmless (h k List.mem_cons_self) ha
      have hactuators : (s.reportTo v k).steer.actuators = put s.steer.actuators k (some (s.reported v k a)) := by
        rw [hturn]
        split <;> rfl
      have hcoup : (s.reportTo v k).coup = s.coup := by
        rw [hturn]
        split <;> rfl
      have hreported : (s.reportTo v k).reported v = s.reported v :=
        State.reported_congr (by simp) (by simp) (by simp)
      have hread (j : Fin 8) (hj : j ∈ ks) : (s.reportTo v k).steer.actuators[j] = s.steer.actuators[j] := by
        rw [hactuators, put_get_other _ (show k ≠ j from fun h => hk (h ▸ hj))]
      have hfilter : ks.filter ((s.reportTo v k).failing v) = ks.filter (s.failing v) :=
        List.filter_congr fun j hj => State.failing_congr (by simp) (hread j hj)
      have hvector : remap (s.reportTo v k).steer.actuators (fun j x => if j ∈ ks then x.map (s.reported v j) else x) =
          remap s.steer.actuators fun j x => if j ∈ k :: ks then x.map (s.reported v j) else x := by
        refine vector_ext fun j => ?_
        rw [remap_get, remap_get, hactuators, put_get]
        by_cases hj : k = j
        · subst hj
          simp [hk, ha]
        · simp [hj, Ne.symm hj]
      rw [ih hks _ fun j hj => (hrest j hj).of_read (hread j hj) hcoup (by simp) hreported, hreported, hvector, hfilter]
      have hfailing : s.failing v k = s.fails v a := by rw [State.failing, ha, Option.any_some]
      by_cases hfails : s.fails v a = true
      · rw [List.filter_cons_of_pos (hfailing.trans hfails), List.foldl_cons, hturn, if_pos hfails]
        rfl
      · rw [List.filter_cons_of_neg (hfailing ▸ hfails), hturn, if_neg hfails]
        rfl

end Turns

/-! ### The statement -/

/-- A condition that holds and is locked aborts the release in hand (R139). -/
theorem State.checkLock_locked {c : Interlock} {s : State} {i : Fin 48} (hslot : s.coup.slot = some i)
    (hlock : (s.couplingEntry i).hasLock c = true) (hholds : s.lockHolds i c = true) : s.checkLock c = s.abortRelease i := by
  rw [State.checkLock, hslot]
  simp [hlock, hholds]

theorem State.steeredBy_iff {s : State} {p : Port} {ch : Nat} {j : Fin 8} : s.steeredBy p ch j = true ↔
    (s.steer.actuators[j]).isSome = true ∧ (s.actuatorEntry j).port = p ∧ (s.actuatorEntry j).channel = ch := by
  simp [State.steeredBy]

/-- Settles O21. -/
theorem rudReportAlignsAndSupervises : Obligations.RudReportAlignsAndSupervises := by
  intro p ch data s hs hp hlen v x takes count out after actuators stored fails told frame
  let l := (List.finRange 8).filter (s.steeredBy p ch.toNat)
  have hrun : exec (.rudReport p ch data) s = .next ((l.foldl (State.reportTo v) s).forward p frame) := by
    show Host.Outcome.next (if p = .w then _ else _) = _
    rw [if_neg hp, State.frameEvent_taken p 2 _ _ hs hlen]
    rfl
  have hafter (j : Fin 8) (a : Actuator) : after j a = s.reported v j a := by
    obtain ⟨state, target, output, remainder, ramp, count, lastReported, reported⟩ := a
    cases state <;> rfl
  have hmem (j : Fin 8) : j ∈ l ↔ (s.steer.actuators[j]).isSome = true ∧ takes j := by
    simp only [l, List.mem_filter, List.mem_finRange, true_and, State.steeredBy_iff]
    rfl
  have hnodup : l.Nodup := (List.nodup_finRange 8).filter _
  have hactuators : actuators = remap s.steer.actuators fun j y => if j ∈ l then y.map (s.reported v j) else y := by
    refine vector_ext fun j => ?_
    simp only [actuators, remap_get, hmem, funext (hafter j)]
    cases s.steer.actuators[j] with
    | none => simp
    | some a => simp
  have hstored : stored = s.withActuators (remap s.steer.actuators fun j y => if j ∈ l then y.map (s.reported v j) else y) :=
    congrArg (State.withActuators · s) hactuators
  have halignOut (j : Fin 8) (a : Actuator) (halign : a.state = .align) : (s.reported v j a).output = out j := by
    rw [State.reported_align halign]
    rfl
  refine ⟨fun hquiet => ?_, fun i j a hslot hlock hidle hj hone ha halign hkind hout => ?_, ?_⟩
  · have hharmless (j : Fin 8) (hj : j ∈ l) : s.Harmless v j := by
      rintro ⟨i, hslot, hlock⟩ a ha halign hkind
      rw [halignOut j a halign]
      exact hquiet i hslot hlock j a ((hmem j).mp hj).2 ha halign hkind
    have hfails : l.filter (s.failing v) = (List.finRange 8).filter fails := by
      rw [List.filter_filter]
      refine List.filter_congr fun j _ => ?_
      simp only [fails, State.failing, State.steeredBy]
      cases s.steer.actuators[j] with
      | none => rfl
      | some a =>
        have hcount : followCountAfter s.params.followWindow v a.output a.count = count a := rfl
        rw [Option.any_some, Option.isSome_some, Bool.true_and, State.fails, hcount, ← Bool.decide_and]
        exact decide_eq_decide.mpr and_comm
    rw [hrun, State.foldl_reportTo hnodup s hharmless, hfails, ← hstored]
  · have hl : l = [j] := by
      refine List.perm_singleton.mp ((List.perm_ext_iff_of_nodup hnodup (List.nodup_singleton j)).mpr fun k => ?_)
      rw [hmem, List.mem_singleton]
      exact ⟨fun hk => hone k hk.2, fun hk => hk ▸ ⟨by rw [ha]; rfl, hj⟩⟩
    have hrecord : stored = s.withActuator j (s.reported v j a) := by
      rw [hstored, hl]
      refine congrArg (State.withActuators · s) (vector_ext fun k => ?_)
      rw [remap_get, put_get]
      by_cases hk : j = k
      · subst hk
        simp [ha]
      · simp [hk, Ne.symm hk]
    have hactive : (s.withActuator j (s.reported v j a)).bowActive = true :=
      (State.bowActive_iff _).mpr ⟨j, _, put_get_same _ _ _, hkind, (halignOut j a halign).trans_ne hout⟩
    rw [hrun, hl, List.foldl_cons, List.foldl_nil, State.reportTo_some ha, if_pos ⟨halign, hidle, hactive⟩,
      State.checkLock_locked (s := s.withActuator j (s.reported v j a)) hslot hlock hactive, ← hrecord]
  · intro turn
    rw [hrun, List.foldl_filter]
    refine congrArg (fun t => Host.Outcome.next (State.forward p frame t)) (foldl_agree
      (P := fun t => t.mgmt = s.mgmt ∧ t.prop = s.prop ∧ t.params = s.params ∧ t.presence = s.presence)
      (fun t j ht => ?_) (fun t j ht => ?_) _ ⟨rfl, rfl, rfl, rfl⟩).symm
    · obtain ⟨hmgmt, hprop, hparams, hpresence⟩ := ht
      have hreported : t.reported v = s.reported v := State.reported_congr hmgmt hprop hparams
      have hthere : (s.steer.actuators[j]).isSome = (t.steer.actuators[j]).isSome :=
        (congrFun (congrFun hpresence .actuator) j).symm
      have htakes : s.steeredBy p ch.toNat j = true ↔ (t.steer.actuators[j]).isSome = true ∧ takes j := by
        rw [State.steeredBy_iff, hthere]
      simp only [htakes]
      cases ha : t.steer.actuators[j] with
      | none =>
        have hturn : turn t j = t := by simp only [turn, ha]
        rw [hturn]
        simp
      | some a =>
        have hturn : turn t j = if ¬takes j then t
            else if a.state = .align ∧ t.bowActive = false ∧ (t.withActuator j (s.reported v j a)).bowActive = true then
              (t.withActuator j (s.reported v j a)).checkLock .bowActive
            else if a.state = .following ∧ s.params.followCount ≤ count a then
              (t.withActuator j (s.reported v j a)).raise .actuatorFault j.val
            else t.withActuator j (s.reported v j a) := by
          simp only [turn, ha, hafter]
          rfl
        have hfault : t.fails v a = true ↔ a.state = .following ∧ s.params.followCount ≤ count a := by
          rw [State.fails, hparams]
          exact decide_eq_true_iff
        rw [hturn, State.reportTo_some ha, hreported]
        by_cases hj : takes j
        · simp only [hj, hfault, not_true, if_false, Option.isSome_some, and_self, if_true]
        · simp [hj]
    · split
      · simpa using ht
      · exact ht

end Sys2Proof.Machine
end

section
/-! PROOF. The candidate and the derate level (R123 to R125). -/

namespace Sys2Proof.Machine

/-! ### The candidate (R123) -/

theorem State.couplingEntry_of_mgmt {s u : State} (h : u.mgmt = s.mgmt) : u.couplingEntry = s.couplingEntry := by
  funext i
  rw [State.couplingEntry, State.table_of_mgmt h, State.couplingEntry]

theorem State.contributionOf_eq (s : State) (i : Fin 48) : s.contributionOf i =
    ((s.coup.records[i]).map CouplingRecord.state).elim 0 (contribution (s.couplingEntry i).crit) := by
  unfold State.contributionOf
  cases s.coup.records[i] <;> rfl

/-- A greatest value over a list, from a value on. -/
theorem foldl_max_le_iff {α : Type} (f : α → Nat) (l : List α) (a w : Nat) :
    l.foldl (fun n x => max n (f x)) a ≤ w ↔ a ≤ w ∧ ∀ x ∈ l, f x ≤ w := by
  induction l generalizing a with
  | nil => simp
  | cons x xs ih => rw [List.foldl_cons, ih, max_le_iff, List.forall_mem_cons, and_assoc]

theorem State.candidate_le_iff {s : State} {w : Nat} : s.candidate ≤ w ↔ ∀ i, s.contributionOf i ≤ w := by
  simp [State.candidate, foldl_max_le_iff]

theorem State.contributionOf_le_candidate (s : State) (i : Fin 48) : s.contributionOf i ≤ s.candidate :=
  State.candidate_le_iff.mp le_rfl i

/-- The candidate is the greatest contribution. -/
theorem State.candidate_eq {s : State} {w : Nat} (hle : ∀ i, s.contributionOf i ≤ w)
    (hge : w = 0 ∨ ∃ i, s.contributionOf i = w) : s.candidate = w := by
  refine le_antisymm (State.candidate_le_iff.mpr hle) ?_
  rcases hge with rfl | ⟨i, rfl⟩
  · exact Nat.zero_le _
  · exact s.contributionOf_le_candidate i

/-- Settles O24. -/
theorem derateFollowsWorstCoupling : Obligations.DerateFollowsWorstCoupling := by
  intro s w part
  have hpart (i : Fin 48) : part i = s.contributionOf i := by
    simp only [part, State.contributionOf]
    cases s.coup.records[i] with
    | none => rfl
    | some r =>
      obtain ⟨state, tension, pinOpen, age⟩ := r
      cases state <;> rfl
  refine ⟨rfl, fun hle hge => ?_⟩
  have hcandidate : s.candidate = w := by
    simp only [hpart] at hle hge
    exact State.candidate_eq hle hge
  refine ⟨?_, ?_⟩
  · rw [State.applyDerate, hcandidate]
  · have hcount : satAdd Config.counterMax s.coup.hold 1 = min 65535 (s.coup.hold + 1) := rfl
    rw [State.holdStep, hcandidate, hcount]
    dsimp only
    by_cases hlevel : s.coup.level ≤ w
    · rw [if_neg (by omega), if_pos hlevel]
    · rw [if_pos (by omega), if_neg hlevel]
      by_cases hhold : s.params.derateHold ≤ min 65535 (s.coup.hold + 1)
      · rw [if_pos hhold, if_neg (by omega)]
      · rw [if_neg hhold, if_pos (by omega)]

end Sys2Proof.Machine
end

section
/-! PROOF. What the coupling supervisor, the release controller and the interlocks read, and what carrying out a management
command can leave of it (R193). -/

namespace Sys2Proof.Machine

/-- Two states that agree in the tables, the tow, the gears, the outputs of the actuators, the helm demand and CENTRE_WINDOW:
all that the supervisor, the release controller and the interlocks read (R123, R134). -/
structure State.SameTow (s u : State) : Prop where
  tables : u.mgmt.tables = s.mgmt.tables
  coup : u.coup = s.coup
  channels : u.prop.channels = s.prop.channels
  actuators : u.steer.actuators = s.steer.actuators
  helm : u.station.helm = s.station.helm
  window : u.params.centreWindow = s.params.centreWindow

theorem State.SameTow.refl (s : State) : s.SameTow s := ⟨rfl, rfl, rfl, rfl, rfl, rfl⟩

theorem State.SameUnits.sameTow {s u : State} (h : s.SameUnits u) : s.SameTow u :=
  ⟨congrArg TableUnit.tables h.mgmt, h.coup, congrArg PropulsionUnit.channels h.prop,
    congrArg SteeringUnit.actuators h.steer, congrArg StationUnit.helm h.station, congrArg Params.centreWindow h.params⟩

/-- What carrying out a management command can leave, as the supervisor and the release controller see it: the tables opened,
written and closed, a parameter stored, a release accepted, a coupling detached or attached, an actuator reset, or nothing
(R101, R121, R122, R136, R185 to R190, R194). -/
inductive State.CommandLeaves (s : State) : State → Prop
  | quiet {u : State} (h : s.SameTow u) : s.CommandLeaves u
  | opened (t : TableId) (n : Nat) (hfree : s.inUse t = false) : s.CommandLeaves (s.openTable t n)
  | written (t : TableId) (new : List Word) (hslot : s.mgmt.loadSlot = some t) : s.CommandLeaves (s.written t new)
  | loaded (t : TableId) (hslot : s.mgmt.loadSlot = some t) :
      s.CommandLeaves ((s.endLoad t .ready .none).afterReady t)
  | rejected (t : TableId) (cause : Cause) (hslot : s.mgmt.loadSlot = some t) :
      s.CommandLeaves ((s.endLoad t .rejected cause).raise .tableRejected (tableNum t).val)
  | stored (p : Param) (v : Nat) : s.CommandLeaves (s.storeParam p v)
  | accepted (i : Fin 48) (r : CouplingRecord) (hr : s.coup.records[i] = some r) (hslot : s.coup.slot = none)
      (hlock : s.firstLock i = none) : s.CommandLeaves (s.acceptRelease i r)
  | detached (i : Fin 48) (r : CouplingRecord) (hr : s.coup.records[i] = some r) (hstate : r.state ≠ .releasing) :
      s.CommandLeaves (s.withCoupling i { r with state := .released }).afterChange
  | attached (i : Fin 48) (r : CouplingRecord) (hr : s.coup.records[i] = some r) (hstate : r.state = .released) :
      s.CommandLeaves (s.withCoupling i { r with state := .unknown, age := 0 }).afterChange
  | realigned (j : Fin 8) (a : Actuator) (ha : s.steer.actuators[j] = some a) :
      s.CommandLeaves ((s.withActuator j (a.align a.output)).gateActuator j)

section Leaving

variable {s : State}

theorem State.couplingNamed_reads {v : Nat} {i : Fin 48} {r : CouplingRecord} (h : s.couplingNamed v = some (i, r)) :
    s.coup.records[i] = some r := by
  unfold State.couplingNamed at h
  split at h
  · cases h
  · obtain ⟨d, hd, heq⟩ := Option.map_eq_some_iff.mp h
    obtain ⟨rfl, rfl⟩ := Prod.mk.inj heq
    exact hd

theorem State.CommandLeaves.idle (s : State) : s.CommandLeaves s := .quiet (.refl s)

theorem State.CommandLeaves.needs (n : Nat) (args : List Byte) {a : Answer} (h : s.CommandLeaves a.state) :
    s.CommandLeaves (s.needs n args a).state := by
  unfold State.needs
  split
  · exact .idle s
  · exact h

theorem State.SameTow.zeroed (s : State) (c : Counter) : s.SameTow (s.zeroed c) := by
  cases c <;> exact ⟨rfl, rfl, rfl, rfl, rfl, rfl⟩

/-- Each command of R203 by its rule. -/
theorem commandBody_leaves (code : Nat) (args : List Byte) (s : State) :
    s.CommandLeaves (commandBody code args s).state := by
  unfold commandBody
  split
  case h_1 =>
    refine .needs _ args ?_
    (repeat' split)
    case h_2.isFalse hfree => exact .opened _ _ (by simpa using hfree)
    all_goals exact .idle s
  case h_2 =>
    unfold State.tableWrite
    dsimp only
    (repeat' split)
    case h_2.isFalse.isFalse hslot _ _ => exact .written _ _ hslot
    all_goals exact .idle s
  case h_3 =>
    refine .needs _ args ?_
    split
    · exact .idle s
    · split
      · exact .loaded _ ‹_›
      · exact .rejected _ _ ‹_›
  case h_4 =>
    refine .needs _ args ?_
    (repeat' split) <;> exact .quiet ⟨rfl, rfl, rfl, rfl, rfl, rfl⟩
  case h_5 =>
    unfold State.tableRead
    dsimp only
    (repeat' split) <;> exact .quiet ⟨rfl, rfl, rfl, rfl, rfl, rfl⟩
  case h_7 =>
    refine .needs _ args ?_
    split
    · exact .idle s
    · exact .stored _ _
  case h_10 =>
    refine .needs _ args ?_
    split
    · exact .idle s
    · split_ifs
      · exact .idle s
      · exact .quiet (.zeroed s _)
      · exact .idle s
  case h_12 =>
    exact .quiet ⟨by simp [State.snapCapture], by simp [State.snapCapture], by simp [State.snapCapture],
      by simp [State.snapCapture], by simp [State.snapCapture], by simp [State.snapCapture]⟩
  case h_16 =>
    refine .needs _ args ?_
    (repeat' split)
    case h_2 hnamed _ _ hslot _ _ hlock =>
      rw [State.says_state]
      exact .accepted _ _ (State.couplingNamed_reads hnamed) hslot hlock
    all_goals exact .idle s
  case h_17 =>
    refine .needs _ args ?_
    split
    · exact .idle s
    · split_ifs with hstate
      · exact .idle s
      · exact .idle s
      · rw [State.says_state]
        exact .detached _ _ (State.couplingNamed_reads ‹_›) hstate
  case h_18 =>
    refine .needs _ args ?_
    split
    · exact .idle s
    · split_ifs with hstate
      · exact .idle s
      · rw [State.says_state]
        exact .attached _ _ (State.couplingNamed_reads ‹_›) (not_not.mp hstate)
  case h_20 =>
    refine .needs _ args ?_
    split
    · exact .idle s
    · split
      · exact .idle s
      · split_ifs
        · exact .realigned _ _ ‹_›
        · exact .idle s
  case h_21 => exact .idle s
  all_goals
    refine .needs _ args ?_
    (repeat' split) <;> exact .quiet ⟨by simp, by simp, by simp, by simp, by simp, by simp⟩

end Leaving

end Sys2Proof.Machine
end

section
/-! PROOF. The derate level is at or above the candidate while COUPLING is READY, after every rule of the units (R123, R124). -/

namespace Sys2Proof.Machine

/-- While COUPLING is READY the derate level is at or above the candidate. -/
structure State.Derated (s : State) : Prop where
  reached : s.ready .coupling = true → s.candidate ≤ s.coup.level

theorem State.derateSound_iff (s : State) : s.derateSound = true ↔ s.Derated := by
  rw [State.derateSound, Bool.or_eq_true, Bool.not_eq_true', ← Bool.not_eq_true, ← imp_iff_not_or]
  simp only [List.all_eq_true, List.mem_finRange, true_imp_iff, decide_eq_true_eq, ← State.candidate_le_iff]
  exact ⟨fun h => ⟨h⟩, fun h => h.reached⟩

/-! ### What it is read from -/

section Reading

variable {s u : State}

/-- The candidate is read from the COUPLING table and the states of the records (R123). -/
theorem State.candidate_of_states (ht : u.table .coupling = s.table .coupling)
    (hstates : ∀ i : Fin 48, (u.coup.records[i]).map CouplingRecord.state = (s.coup.records[i]).map CouplingRecord.state) :
    u.candidate = s.candidate := by
  have hcontribution : u.contributionOf = s.contributionOf := by
    funext i
    rw [State.contributionOf_eq, State.contributionOf_eq, hstates, State.couplingEntry, ht, State.couplingEntry]
  unfold State.candidate
  rw [hcontribution]

theorem State.raise_candidate (k : NoticeKind) (i : Nat) (s : State) : (s.raise k i).candidate = s.candidate :=
  State.candidate_congr (by rw [State.raise_coup]) (State.raise_mgmt _ _ _)

theorem State.Derated.of_states (h : s.Derated) (ht : u.table .coupling = s.table .coupling)
    (hlevel : u.coup.level = s.coup.level)
    (hstates : ∀ i : Fin 48, (u.coup.records[i]).map CouplingRecord.state = (s.coup.records[i]).map CouplingRecord.state) :
    u.Derated := by
  refine ⟨fun hready => ?_⟩
  rw [State.candidate_of_states ht hstates, hlevel]
  rw [State.ready, ht] at hready
  exact h.reached hready

theorem State.Derated.of_same (h : s.Derated) (ht : u.table .coupling = s.table .coupling) (hc : u.coup = s.coup) :
    u.Derated :=
  h.of_states ht (congrArg _ hc) fun i => by rw [hc]

theorem State.Derated.of_units (h : s.Derated) (hc : u.coup = s.coup) (hm : u.mgmt = s.mgmt) : u.Derated :=
  h.of_same (State.table_of_mgmt hm .coupling) hc

theorem State.Derated.of_tow (h : s.Derated) (hu : s.SameTow u) : u.Derated := by
  refine h.of_same ?_ hu.coup
  rw [State.table, hu.tables, State.table]

theorem State.Derated.of_not_ready (h : (s.table .coupling).state ≠ .ready) : s.Derated :=
  ⟨fun hready => absurd (of_decide_eq_true hready) h⟩

end Reading

/-! ### The candidate recomputed (R124), and what follows a change of a record's state -/

theorem State.applyDerate_records (s : State) : s.applyDerate.coup.records = s.coup.records := by
  unfold State.applyDerate
  (repeat' split) <;> simp

/-- Recomputing the candidate leaves the level at or above it, whatever it was (R124). -/
theorem State.applyDerate_derated (s : State) : s.applyDerate.Derated := by
  refine ⟨fun _ => ?_⟩
  rw [State.candidate_congr s.applyDerate_records s.applyDerate_mgmt]
  unfold State.applyDerate
  split_ifs with hlow heq
  · rw [State.raise_coup]
  · exact heq.le
  · exact Nat.not_lt.mp hlow

theorem State.afterChange_derated (s : State) : s.afterChange.Derated :=
  s.applyDerate_derated.of_units (State.tellSteering_coup _) (State.tellSteering_mgmt _)

/-- A release ends with the candidate recomputed and a notice raised (R138, R140, R141). -/
theorem State.afterChange_raise_derated (s : State) (k : NoticeKind) (i : Nat) : (s.afterChange.raise k i).Derated :=
  s.afterChange_derated.of_units (State.raise_coup _ _ _) (State.raise_mgmt _ _ _)

section Keeping

variable {s : State}

theorem State.Derated.checkLock (h : s.Derated) (c : Interlock) : (s.checkLock c).Derated := by
  rcases s.checkLock_cases c with heq | ⟨i, -, -, -, heq⟩ <;> rw [heq]
  · exact h
  · exact State.afterChange_raise_derated _ _ _

theorem State.Derated.watchBow (h : s.Derated) (before : State) : (State.watchBow before s).Derated := by
  rcases State.watchBow_cases before s with heq | heq <;> rw [heq]
  · exact h
  · exact h.checkLock _

theorem State.Derated.tellEngaged (h : s.Derated) (b : Bool) : (s.tellEngaged b).Derated := by
  rcases s.tellEngaged_cases b with heq | ⟨i, heq⟩ <;> rw [heq]
  · exact h
  · exact State.afterChange_raise_derated _ _ _

/-! ### Couplings (chapters 6 and 7) -/

theorem State.withCoupling_states {i : Fin 48} {r0 r : CouplingRecord} (hr : s.coup.records[i] = some r0)
    (hstate : r.state = r0.state) (k : Fin 48) : ((s.withCoupling i r).coup.records[k]).map CouplingRecord.state =
      (s.coup.records[k]).map CouplingRecord.state := by
  rw [State.withCoupling, put_get]
  split
  · rename_i hk
    subst hk
    rw [hr, Option.map_some, Option.map_some, hstate]
  · rfl

theorem State.Derated.withCoupling (h : s.Derated) {i : Fin 48} {r0 r : CouplingRecord}
    (hr : s.coup.records[i] = some r0) (hstate : r.state = r0.state) : (s.withCoupling i r).Derated :=
  h.of_states rfl rfl (State.withCoupling_states hr hstate)

theorem State.Derated.reportOpen (h : s.Derated) (i : Fin 48) (r : CouplingRecord) : (s.reportOpen i r).Derated := by
  unfold State.reportOpen
  split
  · exact State.afterChange_raise_derated _ _ _
  · exact h
  · exact h
  all_goals exact State.afterChange_derated _

theorem State.Derated.reclassified (h : s.Derated) (i : Fin 48) (r : CouplingRecord) : (s.reclassified i r).Derated := by
  unfold State.reclassified
  split
  · exact h
  · exact State.afterChange_derated _

theorem State.Derated.reportEngaged (h : s.Derated) (i : Fin 48) (r : CouplingRecord) :
    (s.reportEngaged i r).Derated := by
  unfold State.reportEngaged
  split
  · exact h
  · exact h.checkLock _
  all_goals exact h.reclassified i r

theorem State.Derated.takeCoupleReport (h : s.Derated) (ch : Nat) (data : List Byte) :
    (s.takeCoupleReport ch data).Derated := by
  unfold State.takeCoupleReport State.reportCoupling
  split
  · exact h
  · split
    · exact h
    · rename_i r hr
      dsimp only
      split
      · exact (h.withCoupling hr (by rfl)).reportOpen _ _
      · exact (h.withCoupling hr (by rfl)).reportEngaged _ _

theorem State.raiseAges_states (s : State) (k : Fin 48) : (s.raiseAges.coup.records[k]).map CouplingRecord.state =
    (s.coup.records[k]).map CouplingRecord.state := by
  have hstate : CouplingRecord.state ∘ CouplingRecord.aged = CouplingRecord.state := by
    funext r
    unfold Function.comp CouplingRecord.aged
    split <;> rfl
  rw [State.raiseAges, remap_get, Option.map_map, hstate]

theorem State.Derated.raiseAges (h : s.Derated) : s.raiseAges.Derated := by
  refine h.of_states (State.table_of_mgmt s.raiseAges_mgmt _) ?_ s.raiseAges_states
  rw [State.raiseAges]

theorem State.Derated.staleStep (h : s.Derated) (i : Fin 48) : (s.staleStep i).Derated := by
  unfold State.staleStep
  split
  · exact h
  · split
    · exact State.afterChange_derated _
    · exact h

/-- The hold step lowers the level to the candidate at most (R125). -/
theorem State.Derated.holdStep (h : s.Derated) : s.holdStep.Derated := by
  unfold State.holdStep
  dsimp only
  split_ifs
  · refine ⟨fun _ => ?_⟩
    rw [State.raise_candidate, State.raise_coup]
    exact (State.candidate_congr (s := s) (by rfl) (by rfl)).le
  · exact h.of_states rfl rfl fun _ => rfl
  · exact h

theorem State.Derated.pollStep (h : s.Derated) : s.pollStep.Derated := by
  unfold State.pollStep
  split
  · exact h
  · exact h.of_states rfl rfl fun _ => rfl

theorem State.Derated.pollExpiry (h : s.Derated) : s.pollExpiry.Derated := by
  have htimer : ({ s with coup := { s.coup with pollTimer := s.params.pollInterval } } : State).Derated :=
    h.of_states rfl rfl fun _ => rfl
  unfold State.pollExpiry
  dsimp only
  split
  · exact (List.foldlRecOn _ _ htimer.pollStep.raiseAges fun _ ht i _ => ht.staleStep i).holdStep
  · exact htimer

/-! ### The other units (chapters 2 to 5) -/

theorem State.Derated.rampExpiry (h : s.Derated) : s.rampExpiry.Derated := by
  have hemit (t : State) (ht : t.Derated) (f : Option Frame) : (t.emit f).Derated := by
    cases f with
    | none => exact ht
    | some f => exact ht.of_units rfl rfl
  have hpaced : (s.passedOne.synchronized.pacedOn fun _ => true).Derated := h.of_units rfl rfl
  rw [State.rampExpiry_eq]
  exact List.foldlRecOn _ _ (hpaced.tellEngaged _) fun t ht _ _ => hemit t ht _

theorem State.Derated.steerActuator (h : s.Derated) (level elapsed : Nat) (j : Fin 8) :
    (s.steerActuator level elapsed j).Derated := by
  have hstored (a : Actuator) : (s.withActuator j a).Derated := h.of_units rfl rfl
  unfold State.steerActuator
  split
  · exact h
  · dsimp only
    split
    · exact h
    · exact h
    · exact ((hstored _).watchBow s).of_units rfl rfl
    · exact h.of_units rfl rfl

theorem State.Derated.reportTo (h : s.Derated) (v : Int) (j : Fin 8) : (s.reportTo v j).Derated := by
  have hstored (a : Actuator) : (s.withActuator j a).Derated := h.of_units rfl rfl
  cases ha : s.steer.actuators[j] with
  | none => rwa [State.reportTo_none ha]
  | some a =>
    rw [State.reportTo_some ha]
    split_ifs
    · exact (hstored _).checkLock _
    · exact h.of_units rfl rfl
    · exact hstored _

theorem State.Derated.helmFrom (h : s.Derated) (data : List Byte) (i : Fin 4) : (s.helmFrom data i).Derated := by
  unfold State.helmFrom
  dsimp only
  split
  · refine State.Derated.checkLock ?_ _
    exact h.of_units rfl rfl
  · exact h.of_units rfl rfl

theorem State.Derated.takeFrom (h : s.Derated) (data : List Byte) (i : Fin 4) : (s.takeFrom data i).Derated := by
  rw [State.takeFrom_eq]
  split
  · exact h.of_units (by simp [State.grantTake]) (by simp [State.grantTake])
  · exact h

theorem State.Derated.stationFrame (h : s.Derated) (k : StationKind) (ch : Nat) (data : List Byte)
    {handle : Fin 4 → State → State} (hh : ∀ i (t : State), t.Derated → (handle i t).Derated) :
    (s.stationFrame k ch data handle).Derated := by
  unfold State.stationFrame
  dsimp only
  split
  · exact h
  · split
    · exact h.of_units rfl rfl
    · exact hh _ _ (h.of_units rfl rfl)

/-! ### Commands and restarts (R129, R130, R132, R185 to R190) -/

theorem State.Derated.openTable (h : s.Derated) (t : TableId) (n : Nat) : (s.openTable t n).Derated := by
  have htable : (s.openTable t n).table .coupling = if t = .coupling then loadingTable t n else s.table .coupling :=
    (State.table_of_mgmt (State.afterOpen_mgmt t _) _).trans (State.withTable_table t _ _ s)
  by_cases ht : t = .coupling
  · rw [if_pos ht] at htable
    exact .of_not_ready (by simp [htable, loadingTable])
  · rw [if_neg ht] at htable
    refine h.of_same htable ?_
    unfold State.openTable
    cases t with
    | coupling => exact absurd rfl ht
    | _ => simp [State.afterOpen]

theorem State.Derated.written (h : s.Derated) {t : TableId} (new : List Word)
    (hloading : (s.table t).state = .loading) : (s.written t new).Derated := by
  have htable := State.withTable_table t .coupling
    { s.table t with words := storeWords (s.table t).words s.mgmt.writeIndex new } s
  by_cases ht : t = .coupling
  · subst ht
    refine .of_not_ready (s := s.written .coupling new) ?_
    rw [show (s.written .coupling new).table .coupling = _ from htable.trans (if_pos rfl), hloading]
    decide
  · exact h.of_same (u := s.written t new) (htable.trans (if_neg ht)) rfl

theorem State.createCouplings_derated (s : State) : s.createCouplings.Derated := by
  rw [State.createCouplings]
  exact State.afterChange_derated _

theorem State.Derated.afterReady (h : s.Derated) (t : TableId) : (s.afterReady t).Derated := by
  cases t with
  | coupling => exact s.createCouplings_derated
  | _ => exact h.of_units (by simp [State.afterReady, State.createActuators]) (State.afterReady_mgmt _ s)

/-- Every command: an open or a failed load of COUPLING leaves it not READY, its load has the candidate recomputed. -/
theorem State.Derated.commandLeaves (h : s.Derated) (htables : s.TablesFit) {u : State} (hu : s.CommandLeaves u) :
    u.Derated := by
  cases hu with
  | quiet hu => exact h.of_tow hu
  | opened t n => exact h.openTable t n
  | written t new hslot => exact h.written new ((htables.each t).held_iff.mp hslot)
  | loaded t =>
    by_cases ht : t = .coupling
    · subst ht
      exact State.createCouplings_derated _
    · exact (h.of_same ((s.endLoad_table t _ _ _).trans (if_neg ht)) rfl : (s.endLoad t _ _).Derated).afterReady t
  | rejected t cause =>
    have htable := s.endLoad_table t .coupling .rejected cause
    by_cases ht : t = .coupling
    · rw [if_pos ht] at htable
      exact (State.Derated.of_not_ready (by simp [htable])).of_units (State.raise_coup _ _ _) (State.raise_mgmt _ _ _)
    · rw [if_neg ht] at htable
      exact (h.of_same htable (by simp)).of_units (State.raise_coup _ _ _) (State.raise_mgmt _ _ _)
  | stored p v =>
    unfold State.storeParam
    dsimp only
    split
    · refine State.Derated.checkLock ?_ _
      exact h.of_units rfl rfl
    · exact h.of_units rfl rfl
  | accepted | detached | attached => exact State.afterChange_derated _
  | realigned j a =>
    exact h.of_units (by simp) (by simp)

/-- After a warm restart the level is the candidate (R132). -/
theorem State.warm_derated (straps : Straps) (s : State) : (s.warm straps).Derated := by
  refine ⟨fun hready => ?_⟩
  rw [State.ready_restarted (s.warm_mgmt straps)] at hready
  obtain ⟨-, -, hlevel, -⟩ := s.warm_coup_ready straps hready
  exact hlevel.ge

/-- Every rule of the units keeps the level at or above the candidate. -/
theorem State.Derated.rulesGive (h : s.Derated) (htables : s.TablesFit) : s.RulesGive State.Derated where
  free hu ht := ht.of_tow hu.sameTow
  idle := h
  command code args := h.commandLeaves htables (commandBody_leaves code args s)
  lever ch data := h.stationFrame .lever ch data fun i t ht => ht.of_units
    (by unfold State.leverFrom; dsimp only; split <;> simp) (t.leverFrom_mgmt data i)
  helm ch data := h.stationFrame .helm ch data fun i _ ht => ht.helmFrom data i
  take ch data := h.stationFrame .take ch data fun i _ ht => ht.takeFrom data i
  watch ch data := h.stationFrame .watch ch data fun i t ht => ht.of_units
    (by unfold State.watchFrom; split <;> simp) (t.watchFrom_mgmt i)
  govReport ch data := h.of_units (by simp) (by simp)
  rudReport p ch data := List.foldlRecOn _ _ h fun _ ht j _ => ht.reportTo _ j
  coupleReport ch data := h.takeCoupleReport ch data
  flow ch data := h.of_units (by simp) (by simp)
  ramp := h.rampExpiry
  dwell e t ht := by
    obtain rfl := Host.Outcome.next.inj ht
    exact h.of_units (by split <;> simp) (by split <;> simp)
  freshness e t ht := by
    obtain rfl := Host.Outcome.next.inj ht
    exact h.of_units (by (repeat' split) <;> rfl) (by (repeat' split) <;> rfl)
  hold e t ht := by
    obtain rfl := Host.Outcome.next.inj ht
    exact h.of_units (by split <;> simp) (by split <;> simp)
  steering := List.foldlRecOn _ _ (h.of_units rfl rfl) fun _ ht j _ => ht.steerActuator _ _ j
  helmTimer t ht := by
    obtain rfl := Host.Outcome.next.inj ht
    exact h.of_units (by split <;> rfl) (by split <;> rfl)
  poll := h.pollExpiry
  release t ht := by
    obtain rfl := Host.Outcome.next.inj ht
    split
    · exact h
    · split
      · exact h.of_states rfl rfl fun _ => rfl
      · exact State.afterChange_raise_derated _ _ _
  coldStart straps := .of_not_ready (by simp [State.coldStart, State.poweredOn, State.table, Table.blank])
  warm straps := s.warm_derated straps

end Keeping

end Sys2Proof.Machine
end

section
/-! PROOF. The soundness of the release slot (R133, R139): what is asked, what it is read from, and what starts and ends a
release. -/

namespace Sys2Proof.Machine

/-! ### The interlock conditions by what they are read from (R134) -/

section Reading

variable {s u : State}

theorem State.couplingEntry_of_words (h : (u.table .coupling).words = (s.table .coupling).words) :
    u.couplingEntry = s.couplingEntry := by
  funext i
  unfold State.couplingEntry couplingEntryOf Table.word
  rw [h]

theorem State.actuatorEntry_of_words (h : (u.table .actuator).words = (s.table .actuator).words) :
    u.actuatorEntry = s.actuatorEntry := by
  funext j
  refine State.actuatorEntry_congr ?_ j
  unfold State.entryWord Table.word
  rw [h]

theorem State.enginesEngaged_iff (s : State) : s.enginesEngaged = true ↔ ∃ (e : Fin 4) (c : EngineChannel),
    s.prop.channels[e] = some c ∧ c.gear.inGear = true := by
  have hone (x : Option EngineChannel) : (match x with
      | some c => c.gear.inGear
      | none => false) = true ↔ ∃ c, x = some c ∧ c.gear.inGear = true := by
    cases x <;> simp
  simp only [State.enginesEngaged, List.any_eq_true, List.mem_finRange, true_and]
  exact exists_congr fun e => hone _

/-- ENGINES_ENGAGED is read from the gears alone. -/
theorem State.enginesEngaged_of_gears
    (h : ∀ (e : Fin 4) (d : EngineChannel), u.prop.channels[e] = some d → d.gear.inGear = true →
      ∃ c, s.prop.channels[e] = some c ∧ c.gear.inGear = true) (hu : u.enginesEngaged = true) :
    s.enginesEngaged = true := by
  obtain ⟨e, d, hd, hgear⟩ := u.enginesEngaged_iff.mp hu
  obtain ⟨c, hc, hwas⟩ := h e d hd hgear
  exact s.enginesEngaged_iff.mpr ⟨e, c, hc, hwas⟩

theorem State.enginesEngaged_congr (h : u.prop.channels = s.prop.channels) : u.enginesEngaged = s.enginesEngaged := by
  rw [State.enginesEngaged, h, State.enginesEngaged]

theorem State.helmOffCentre_congr (hhelm : u.station.helm = s.station.helm)
    (hwindow : u.params.centreWindow = s.params.centreWindow) : u.helmOffCentre = s.helmOffCentre := by
  rw [State.helmOffCentre, hhelm, hwindow, State.helmOffCentre]

/-- BOW_ACTIVE is read from the outputs and the ACTUATOR entries. -/
theorem State.bowActive_of_outputs (he : u.actuatorEntry = s.actuatorEntry)
    (h : ∀ (j : Fin 8) (b : Actuator), u.steer.actuators[j] = some b → b.output ≠ 0 →
      ∃ a, s.steer.actuators[j] = some a ∧ a.output ≠ 0) (hu : u.bowActive = true) : s.bowActive = true := by
  obtain ⟨j, b, hb, hkind, hout⟩ := u.bowActive_iff.mp hu
  obtain ⟨a, ha, hwas⟩ := h j b hb hout
  exact s.bowActive_iff.mpr ⟨j, a, ha, he ▸ hkind, hwas⟩

theorem State.underLoad_eq (s : State) (i : Fin 48) : s.underLoad i =
    ((s.coup.records[i]).map CouplingRecord.tension).any fun t => decide ((s.couplingEntry i).slack ≤ t) := by
  unfold State.underLoad
  cases s.coup.records[i] <;> rfl

theorem State.releasing_eq (s : State) (i : Fin 48) : s.releasing i =
    ((s.coup.records[i]).map CouplingRecord.state).any fun st => decide (st = .releasing) := by
  unfold State.releasing
  cases s.coup.records[i] <;> rfl

theorem State.firstLock_eq_none {i : Fin 48} : s.firstLock i = none ↔
    ∀ c, (s.couplingEntry i).hasLock c = true → s.lockHolds i c = false := by
  have hall (c : Interlock) : c ∈ interlockOrder := by cases c <;> decide
  simp [State.firstLock, hall]

end Reading

/-! ### What is asked of the release slot (R133) -/

/-- A record is RELEASING exactly while the slot holds its index, and the release timer runs exactly while the slot is
OCCUPIED. -/
structure State.SlotFits (s : State) : Prop where
  held : ∀ i, s.releasing i = true ↔ s.coup.slot = some i
  timed : s.coup.slot.isSome = s.coup.releaseTimer.isSome

/-- The slot fits its record and its timer, and no condition of the releasing coupling's interlock set holds. -/
structure State.ReleasesSoundly (s : State) : Prop extends s.SlotFits where
  free : ∀ i c, s.coup.slot = some i → (s.couplingEntry i).hasLock c = true → s.lockHolds i c = false

theorem State.releaseSound_iff (s : State) : s.releaseSound = true ↔ s.ReleasesSoundly := by
  have hheld (i : Fin 48) : (s.releasing i == decide (s.coup.slot = some i)) = true ↔
      (s.releasing i = true ↔ s.coup.slot = some i) := by
    rw [beq_iff_eq, Bool.eq_iff_iff, decide_eq_true_eq]
  have hfree : (match s.coup.slot with
      | none => true
      | some i => (s.firstLock i).isNone) = true ↔
      ∀ i c, s.coup.slot = some i → (s.couplingEntry i).hasLock c = true → s.lockHolds i c = false := by
    cases s.coup.slot with
    | none => simp
    | some i =>
      rw [Option.isNone_iff_eq_none, State.firstLock_eq_none]
      simp only [Option.some.injEq, forall_comm (α := Interlock), forall_eq']
  rw [State.releaseSound, Bool.and_eq_true, Bool.and_eq_true, beq_iff_eq]
  refine (and_congr_right fun _ => hfree).trans ?_
  simp only [List.all_eq_true, List.mem_finRange, true_imp_iff, hheld]
  constructor
  · rintro ⟨⟨hslot, htimer⟩, hlocks⟩
    exact ⟨⟨hslot, htimer⟩, hlocks⟩
  · rintro ⟨⟨hslot, htimer⟩, hlocks⟩
    exact ⟨⟨hslot, htimer⟩, hlocks⟩

/-- Between two states the release in hand stays, and of the interlock conditions of its coupling none but `new` comes
about. -/
structure State.KeepsRelease (s u : State) (new : Option Interlock) : Prop where
  releasing : ∀ i, u.releasing i = s.releasing i
  slot : u.coup.slot = s.coup.slot
  timer : u.coup.releaseTimer = s.coup.releaseTimer
  entry : u.couplingEntry = s.couplingEntry
  locks : ∀ i c, s.coup.slot = some i → new ≠ some c → u.lockHolds i c = true → s.lockHolds i c = true

section Keeping

variable {s u : State} {new : Option Interlock}

/-- The tow stays, and of the conditions that are not read from it none but `new` comes about. -/
theorem State.KeepsRelease.of_coup (he : u.couplingEntry = s.couplingEntry) (hc : u.coup = s.coup)
    (hengines : new ≠ some .enginesEngaged → u.enginesEngaged = true → s.enginesEngaged = true)
    (hhelm : new ≠ some .helmOffCentre → u.helmOffCentre = true → s.helmOffCentre = true)
    (hbow : new ≠ some .bowActive → u.bowActive = true → s.bowActive = true) : s.KeepsRelease u new where
  releasing i := by rw [State.releasing_eq, hc, State.releasing_eq]
  slot := by rw [hc]
  timer := by rw [hc]
  entry := he
  locks i c _ hnew := by
    cases c with
    | enginesEngaged => exact hengines hnew
    | helmOffCentre => exact hhelm hnew
    | bowActive => exact hbow hnew
    | underLoad =>
      intro h
      change u.underLoad i = true at h
      rw [State.underLoad_eq, hc, he, ← State.underLoad_eq] at h
      exact h

theorem State.KeepsRelease.of_tow (h : s.SameTow u) : s.KeepsRelease u none := by
  have hentry (t : TableId) : u.table t = s.table t := by rw [State.table, h.tables, State.table]
  refine .of_coup (State.couplingEntry_of_words (by rw [hentry])) h.coup
    (fun _ => (Bool.eq_iff_iff.mp (State.enginesEngaged_congr h.channels)).mp)
    (fun _ => (Bool.eq_iff_iff.mp (State.helmOffCentre_congr h.helm h.window)).mp)
    fun _ => State.bowActive_of_outputs (State.actuatorEntry_of_words (by rw [hentry])) fun j b hb hout => ⟨b, ?_, hout⟩
  rwa [← h.actuators]

/-- Tow items stored that leave every record's state and, for the coupling in the slot, its tension. -/
theorem State.KeepsRelease.of_items {c : CouplingUnit} (hslot : c.slot = s.coup.slot)
    (htimer : c.releaseTimer = s.coup.releaseTimer)
    (hstates : ∀ i : Fin 48, (c.records[i]).map CouplingRecord.state = (s.coup.records[i]).map CouplingRecord.state)
    (htensions : new ≠ some .underLoad → ∀ i : Fin 48, s.coup.slot = some i →
      (c.records[i]).map CouplingRecord.tension = (s.coup.records[i]).map CouplingRecord.tension) :
    s.KeepsRelease { s with coup := c } new where
  releasing i := by
    rw [State.releasing_eq, State.releasing_eq]
    exact congrArg (Option.any _) (hstates i)
  slot := hslot
  timer := htimer
  entry := rfl
  locks i d hi hnew := by
    cases d with
    | underLoad =>
      intro h
      change State.underLoad _ i = true at h
      rw [State.underLoad_eq] at h
      change s.underLoad i = true
      rw [State.underLoad_eq, ← htensions hnew i hi]
      exact h
    | _ => exact id

/-! ### The release in hand stays -/

theorem State.SlotFits.of_kept (h : s.SlotFits) (hu : s.KeepsRelease u new) : u.SlotFits where
  held i := by rw [hu.releasing, hu.slot, h.held]
  timed := by rw [hu.slot, hu.timer, h.timed]

/-- A condition that may not have come about does not hold if it locks the release in hand. -/
theorem State.ReleasesSoundly.free_of_kept (h : s.ReleasesSoundly) (hu : s.KeepsRelease u new) {i : Fin 48} {c : Interlock}
    (hi : u.coup.slot = some i) (hnew : new ≠ some c) (hlock : (u.couplingEntry i).hasLock c = true) :
    u.lockHolds i c = false := by
  rw [hu.slot] at hi
  rw [hu.entry] at hlock
  have hfree := h.free i c hi hlock
  by_contra hholds
  rw [hu.locks i c hi hnew (by simpa using hholds)] at hfree
  cases hfree

theorem State.ReleasesSoundly.of_kept (h : s.ReleasesSoundly) (hu : s.KeepsRelease u none) : u.ReleasesSoundly where
  toSlotFits := h.toSlotFits.of_kept hu
  free _ _ hi := h.free_of_kept hu hi (by simp)

theorem State.ReleasesSoundly.of_tow (h : s.ReleasesSoundly) (hu : s.SameTow u) : u.ReleasesSoundly :=
  h.of_kept (.of_tow hu)

/-- With the slot EMPTY nothing is asked of the interlock conditions. -/
theorem State.SlotFits.of_idle (h : s.SlotFits) (hslot : s.coup.slot = none) (hc : u.coup = s.coup) :
    u.ReleasesSoundly where
  held i := by rw [State.releasing_eq, hc, ← State.releasing_eq, h.held]
  timed := by rw [hc, h.timed]
  free i _ hi := by rw [hc, hslot] at hi; cases hi

/-! ### The end of a release (R138, R140, R141) -/

/-- With the slot EMPTY, the timer stopped and no record RELEASING, the release controller is sound. -/
theorem State.ReleasesSoundly.of_none (hslot : s.coup.slot = none) (htimer : s.coup.releaseTimer = none)
    (hnone : ∀ i, s.releasing i = false) : s.ReleasesSoundly where
  held i := by simp [hnone, hslot]
  timed := by rw [hslot, htimer]; rfl
  free i _ hi := by rw [hslot] at hi; cases hi

theorem State.applyDerate_releaseTimer (s : State) : s.applyDerate.coup.releaseTimer = s.coup.releaseTimer := by
  unfold State.applyDerate
  (repeat' split) <;> simp

theorem State.afterChange_tow (s : State) : s.afterChange.coup.records = s.coup.records ∧
    s.afterChange.coup.slot = s.coup.slot ∧ s.afterChange.coup.releaseTimer = s.coup.releaseTimer := by
  rw [State.afterChange, State.tellSteering_coup]
  exact ⟨s.applyDerate_records, s.applyDerate_slot, s.applyDerate_releaseTimer⟩

theorem classify_ne_releasing (e : CouplingEntry) (st : CouplingState) (t : Nat) : classify e st t ≠ .releasing := by
  unfold classify
  split_ifs <;> simp

theorem State.withCoupling_releasing (i k : Fin 48) (r : CouplingRecord) (s : State) : (s.withCoupling i r).releasing k =
    if i = k then decide (r.state = .releasing) else s.releasing k := by
  rw [State.releasing_eq, State.releasing_eq, State.withCoupling, put_get]
  split <;> rfl

/-- A classification leaves the slot and the timer, and a record that is not RELEASING (R118). -/
theorem State.classified_tow (i : Fin 48) (r : CouplingRecord) (s : State) :
    (s.classified i r).coup = (s.withCoupling i { r with state := classify (s.couplingEntry i) r.state r.tension }).coup := by
  unfold State.classified
  dsimp only
  split <;> rfl

theorem State.classifyLast_tow (i : Fin 48) (s : State) : (s.classifyLast i).coup.slot = s.coup.slot ∧
    (s.classifyLast i).coup.releaseTimer = s.coup.releaseTimer ∧
    ∀ k, (s.classifyLast i).releasing k = if i = k then false else s.releasing k := by
  cases hr : s.coup.records[i] with
  | none =>
    have hsame : s.classifyLast i = s := by rw [State.classifyLast, hr]
    rw [hsame]
    refine ⟨rfl, rfl, fun k => ?_⟩
    by_cases hk : i = k
    · rw [if_pos hk, State.releasing_eq, ← hk, hr]
      rfl
    · rw [if_neg hk]
  | some r =>
    obtain ⟨d, hcoup, hd⟩ : ∃ d : CouplingRecord, (s.classifyLast i).coup = (s.withCoupling i d).coup ∧
        d.state ≠ .releasing := by
      rw [State.classifyLast, hr]
      dsimp only
      split
      · exact ⟨{ r with state := .parted }, rfl, by simp⟩
      · exact ⟨_, s.classified_tow i r, classify_ne_releasing _ _ _⟩
    rw [hcoup]
    refine ⟨rfl, rfl, fun k => ?_⟩
    have hread : (s.classifyLast i).releasing k = (s.withCoupling i d).releasing k := by
      rw [State.releasing_eq, hcoup, ← State.releasing_eq]
    rw [hread, State.withCoupling_releasing, decide_eq_false hd]

/-- A release that did not complete: HOLD, the timer stopped, the record classified from its last report, the slot EMPTY,
derate and steering told (R140, R141). -/
def State.endRelease (i : Fin 48) (s : State) : State :=
  (((s.offerUrgent .t (s.coupleCmd i cmdHold)).stopRelease).classifyLast i).emptySlot.afterChange

theorem State.abortRelease_eq (i : Fin 48) (s : State) :
    s.abortRelease i = (s.endRelease i).raise .releaseAborted i.val := rfl

theorem State.failRelease_eq (i : Fin 48) (s : State) :
    s.failRelease i = (s.endRelease i).raise .releaseFailed i.val := rfl

theorem State.raise_sameTow (k : NoticeKind) (i : Nat) (s : State) : s.SameTow (s.raise k i) :=
  ⟨rfl, rfl, rfl, rfl, rfl, rfl⟩

/-- The slot EMPTY and the timer stopped, no record but that of the release was RELEASING. -/
theorem State.SlotFits.ended (h : s.SlotFits) {i : Fin 48} (hi : s.coup.slot = some i) (hslot : u.coup.slot = none)
    (htimer : u.coup.releaseTimer = none) (hother : ∀ k, u.releasing k = if i = k then false else s.releasing k) :
    u.afterChange.ReleasesSoundly := by
  obtain ⟨hrecords, hslot', htimer'⟩ := u.afterChange_tow
  refine .of_none (hslot'.trans hslot) (htimer'.trans htimer) fun k => ?_
  rw [State.releasing_eq, hrecords, ← State.releasing_eq, hother]
  split
  · rfl
  · rename_i hk
    rw [← Bool.not_eq_true, h.held, hi]
    exact fun heq => hk (Option.some.inj heq)

theorem State.SlotFits.endRelease (h : s.SlotFits) {i : Fin 48} (hi : s.coup.slot = some i) :
    (s.endRelease i).ReleasesSoundly := by
  obtain ⟨-, htimer, hreleasing⟩ := ((s.offerUrgent .t (s.coupleCmd i cmdHold)).stopRelease).classifyLast_tow i
  exact h.ended hi rfl htimer hreleasing

theorem State.SlotFits.abortRelease (h : s.SlotFits) {i : Fin 48} (hi : s.coup.slot = some i) :
    (s.abortRelease i).ReleasesSoundly :=
  (h.endRelease hi).of_tow (State.raise_sameTow _ _ _)

theorem State.SlotFits.failRelease (h : s.SlotFits) {i : Fin 48} (hi : s.coup.slot = some i) :
    (s.failRelease i).ReleasesSoundly :=
  (h.endRelease hi).of_tow (State.raise_sameTow _ _ _)

theorem State.SlotFits.completeRelease (h : s.SlotFits) {i : Fin 48} (hi : s.coup.slot = some i) (r : CouplingRecord) :
    (s.completeRelease i r).ReleasesSoundly := by
  refine State.ReleasesSoundly.of_tow (h.ended hi (u := State.emptySlot _) rfl rfl fun k => ?_) (State.raise_sameTow _ _ _)
  exact State.withCoupling_releasing i k { r with state := .released } s

/-! ### A condition told (R139) -/

/-- The condition that may have come about does not hold if it locks the release in hand. -/
theorem State.ReleasesSoundly.of_told (h : s.ReleasesSoundly) {c : Interlock} (hu : s.KeepsRelease u (some c))
    (hoff : ∀ i, u.coup.slot = some i → (u.couplingEntry i).hasLock c = true → u.lockHolds i c = false) :
    u.ReleasesSoundly where
  toSlotFits := h.toSlotFits.of_kept hu
  free i d hi hlock := by
    by_cases hd : c = d
    · subst hd
      exact hoff i hi hlock
    · exact h.free_of_kept hu hi (by simpa using hd) hlock

/-- The condition that may have come about is told: it aborts the release in hand, or does not lock it. -/
theorem State.ReleasesSoundly.checkLock (h : s.ReleasesSoundly) {c : Interlock} (hu : s.KeepsRelease u (some c)) :
    (u.checkLock c).ReleasesSoundly := by
  by_cases hoff : ∀ i, u.coup.slot = some i → (u.couplingEntry i).hasLock c = true → u.lockHolds i c = false
  · rw [State.checkLock_free hoff]
    exact h.of_told hu hoff
  · push Not at hoff
    obtain ⟨i, hi, hlock, hholds⟩ := hoff
    rw [State.checkLock_locked hi hlock (by simpa using hholds)]
    exact (h.toSlotFits.of_kept hu).abortRelease hi

/-- Engines that may have been engaged since are told of. -/
theorem State.ReleasesSoundly.tellEngaged (h : s.ReleasesSoundly) {b : Bool} (hu : s.KeepsRelease u (some .enginesEngaged))
    (hb : u.enginesEngaged = true → s.enginesEngaged = true ∨ b = true) : (u.tellEngaged b).ReleasesSoundly := by
  by_cases hlocked : ∃ i, u.coup.slot = some i ∧ (u.couplingEntry i).hasLock .enginesEngaged = true ∧ b = true
  · obtain ⟨i, hi, hlock, rfl⟩ := hlocked
    have habort : u.tellEngaged true = u.abortRelease i := by
      simp only [State.tellEngaged, hi, hlock, Bool.and_self, if_true]
    rw [habort]
    exact (h.toSlotFits.of_kept hu).abortRelease hi
  · have hidle : u.tellEngaged b = u := by
      unfold State.tellEngaged
      split
      · rfl
      · rename_i i hi
        exact if_neg fun hlock => hlocked ⟨i, hi, by simpa using hlock⟩
    rw [hidle]
    refine h.of_told hu fun i hi hlock => ?_
    have hwas : s.enginesEngaged = false := h.free i .enginesEngaged (hu.slot ▸ hi) (hu.entry ▸ hlock)
    by_contra hon
    rcases hb (Bool.eq_true_of_not_eq_false hon) with hbefore | htold
    · simp [hwas] at hbefore
    · exact hlocked ⟨i, hi, hlock, htold⟩

end Keeping

end Sys2Proof.Machine
end

section
/-! PROOF. The units keep the release slot sound: supervision and couplings (chapters 6 and 7), steering (chapter 5),
propulsion (chapters 3 and 4) and stations (chapter 2). -/

namespace Sys2Proof.Machine

/-! ### The steering unit told (R102, R103) -/

section Telling

variable {s : State}

/-- Bringing a record in step leaves its output or stills it (R102, R103). -/
theorem State.gating_output (j : Fin 8) (a : Actuator) : (s.gating j a).output ≠ 0 → a.output ≠ 0 := by
  unfold State.gating
  split_ifs
  · exact id
  · exact fun h => absurd rfl h
  · exact id
  · exact id
  · exact fun h => absurd rfl h

theorem State.gateActuator_bowActive (j : Fin 8) (h : (s.gateActuator j).bowActive = true) : s.bowActive = true := by
  refine State.bowActive_of_outputs (funext fun k => State.actuatorEntry_of_mgmt (by simp) k) (fun k b hb hout => ?_) h
  by_cases hk : j = k
  · subst hk
    rw [State.gateActuator_same] at hb
    obtain ⟨a, ha, rfl⟩ := Option.map_eq_some_iff.mp hb
    exact ⟨a, ha, State.gating_output j a hout⟩
  · rw [State.gateActuator_other s hk] at hb
    exact ⟨b, hb, hout⟩

theorem State.tellSteering_bowActive (h : s.tellSteering.bowActive = true) : s.bowActive = true :=
  List.foldlRecOn (motive := fun t : State => t.bowActive = true → s.bowActive = true) _ _ id
    (fun _ ht j _ hon => ht (State.gateActuator_bowActive j hon)) h

theorem State.ReleasesSoundly.tellSteering (h : s.ReleasesSoundly) : s.tellSteering.ReleasesSoundly := by
  have hengines : s.tellSteering.enginesEngaged = s.enginesEngaged := State.enginesEngaged_congr (by simp)
  have hhelm : s.tellSteering.helmOffCentre = s.helmOffCentre := State.helmOffCentre_congr (by simp) (by simp)
  exact h.of_kept (.of_coup (State.couplingEntry_of_mgmt (by simp)) (by simp) (fun _ => by rw [hengines]; exact id)
    (fun _ => by rw [hhelm]; exact id) fun _ => State.tellSteering_bowActive)

theorem State.ReleasesSoundly.applyDerate (h : s.ReleasesSoundly) : s.applyDerate.ReleasesSoundly := by
  have hlevel (n : Nat) : ({ s with coup := { s.coup with level := n, hold := 0 } } : State).ReleasesSoundly :=
    h.of_kept (.of_items rfl rfl (fun _ => rfl) fun _ _ _ => rfl)
  unfold State.applyDerate
  split_ifs
  · exact (hlevel _).of_tow (State.raise_sameTow _ _ _)
  · exact hlevel s.coup.level
  · exact h

theorem State.ReleasesSoundly.afterChange (h : s.ReleasesSoundly) : s.afterChange.ReleasesSoundly :=
  h.applyDerate.tellSteering

end Telling

/-! ### Couplings (chapters 6 and 7) -/

section Coupling

variable {s : State} {i : Fin 48}

theorem State.SlotFits.slot_of_releasing (h : s.SlotFits) {r : CouplingRecord} (hr : s.coup.records[i] = some r)
    (hstate : r.state = .releasing) : s.coup.slot = some i := by
  rw [← h.held, State.releasing_eq, hr, Option.map_some, Option.any_some, hstate]
  rfl

theorem State.SlotFits.record_of_slot (h : s.SlotFits) (hslot : s.coup.slot = some i) :
    ∃ r, s.coup.records[i] = some r ∧ r.state = .releasing := by
  rw [← h.held, State.releasing_eq] at hslot
  cases hr : s.coup.records[i] with
  | none =>
    rw [hr] at hslot
    cases hslot
  | some r =>
    rw [hr] at hslot
    exact ⟨r, rfl, of_decide_eq_true hslot⟩

/-- A record that is not RELEASING is not the one in the slot, and may be stored in any other state but that. -/
theorem State.ReleasesSoundly.withCoupling (h : s.ReleasesSoundly) {r0 r : CouplingRecord}
    (hr : s.coup.records[i] = some r0) (hbefore : r0.state ≠ .releasing) (hafter : r.state ≠ .releasing) :
    (s.withCoupling i r).ReleasesSoundly := by
  have hother {k : Fin 48} (hk : s.coup.slot = some k) : i ≠ k := by
    rintro rfl
    obtain ⟨d, hd, hstate⟩ := h.toSlotFits.record_of_slot hk
    exact hbefore (Option.some.inj (hr.symm.trans hd) ▸ hstate)
  refine h.of_kept ⟨fun k => ?_, rfl, rfl, rfl, fun k c hk _ => ?_⟩
  · rw [State.withCoupling_releasing]
    split
    · rename_i hk
      subst hk
      rw [State.releasing_eq, hr, Option.map_some, Option.any_some, decide_eq_false hbefore, decide_eq_false hafter]
    · rfl
  · cases c with
    | underLoad =>
      intro hload
      change State.underLoad _ k = true at hload
      rw [State.underLoad_eq, State.withCoupling, put_get_other _ (hother hk)] at hload
      change s.underLoad k = true
      rw [State.underLoad_eq]
      exact hload
    | _ => exact id

/-- A report of another tension stored: of the conditions UNDER_LOAD alone may come about (R115, R134). -/
theorem State.KeepsRelease.withCoupling {r0 r : CouplingRecord} (hr : s.coup.records[i] = some r0)
    (hstate : r.state = r0.state) : s.KeepsRelease (s.withCoupling i r) (some .underLoad) :=
  .of_items rfl rfl (State.withCoupling_states hr hstate) fun h => absurd rfl h

theorem State.ReleasesSoundly.classified (h : s.ReleasesSoundly) {r : CouplingRecord} (hr : s.coup.records[i] = some r)
    (hbefore : r.state ≠ .releasing) : (s.classified i r).ReleasesSoundly := by
  have hstored := h.withCoupling (r := { r with state := classify (s.couplingEntry i) r.state r.tension }) hr hbefore
    (classify_ne_releasing _ _ _)
  unfold State.classified
  dsimp only
  split
  · exact hstored.of_tow (State.raise_sameTow _ _ _)
  · exact hstored

theorem State.ReleasesSoundly.reclassified (h : s.ReleasesSoundly) {r : CouplingRecord} (hr : s.coup.records[i] = some r)
    (hbefore : r.state ≠ .releasing) : (s.reclassified i r).ReleasesSoundly := by
  unfold State.reclassified
  split
  · exact h
  · exact (h.classified hr hbefore).afterChange

theorem State.ReleasesSoundly.parted (h : s.ReleasesSoundly) {r : CouplingRecord} (hr : s.coup.records[i] = some r)
    (hbefore : r.state ≠ .releasing) : (s.parted i r).ReleasesSoundly :=
  (h.withCoupling (r := { r with state := .parted }) hr hbefore (by simp)).of_tow (State.raise_sameTow _ _ _)

/-- A record with what a report brings: age 0, tension and pin (R115 to R117). -/
def CouplingRecord.reported (tension : Nat) (pinOpen : Bool) (r : CouplingRecord) : CouplingRecord :=
  { r with tension := tension, pinOpen := pinOpen, age := 0 }

theorem State.reportCoupling_some {r : CouplingRecord} (hr : s.coup.records[i] = some r) (tension : Nat) (pinOpen : Bool) :
    s.reportCoupling i tension pinOpen =
      if pinOpen then (s.withCoupling i (r.reported tension pinOpen)).reportOpen i (r.reported tension pinOpen)
      else (s.withCoupling i (r.reported tension pinOpen)).reportEngaged i (r.reported tension pinOpen) := by
  rw [State.reportCoupling, hr]
  rfl

theorem State.reportOpen_releasing {r : CouplingRecord} (h : r.state = .releasing) :
    s.reportOpen i r = s.completeRelease i r := by
  rw [State.reportOpen, h]

theorem State.reportEngaged_releasing {r : CouplingRecord} (h : r.state = .releasing) :
    s.reportEngaged i r = s.checkLock .underLoad := by
  rw [State.reportEngaged, h]

theorem State.ReleasesSoundly.reportOpen (h : s.ReleasesSoundly) {r : CouplingRecord} (hr : s.coup.records[i] = some r)
    (hbefore : r.state ≠ .releasing) : (s.reportOpen i r).ReleasesSoundly := by
  unfold State.reportOpen
  split
  · exact absurd ‹_› hbefore
  · exact h
  · exact h
  all_goals exact (h.parted hr hbefore).afterChange

theorem State.ReleasesSoundly.reportEngaged (h : s.ReleasesSoundly) {r : CouplingRecord} (hr : s.coup.records[i] = some r)
    (hbefore : r.state ≠ .releasing) : (s.reportEngaged i r).ReleasesSoundly := by
  unfold State.reportEngaged
  split
  · exact h
  · exact absurd ‹_› hbefore
  all_goals exact h.reclassified hr hbefore

/-- A report taken by a record: a RELEASING one is completed, aborted or stays; any other never comes to RELEASING (R115 to
R118, R138, R139). -/
theorem State.ReleasesSoundly.reportCoupling (h : s.ReleasesSoundly) (tension : Nat) (pinOpen : Bool) :
    (s.reportCoupling i tension pinOpen).ReleasesSoundly := by
  cases hr : s.coup.records[i] with
  | none => rwa [State.reportCoupling, hr]
  | some r =>
    rw [State.reportCoupling_some hr]
    by_cases hstate : (r.reported tension pinOpen).state = .releasing
    · have hkept : s.KeepsRelease (s.withCoupling i (r.reported tension pinOpen)) (some .underLoad) := .withCoupling hr rfl
      rw [State.reportOpen_releasing hstate, State.reportEngaged_releasing hstate]
      split
      · exact (h.toSlotFits.of_kept hkept).completeRelease (h.toSlotFits.slot_of_releasing hr hstate) _
      · exact h.checkLock hkept
    · have hstored := h.withCoupling hr hstate hstate
      split
      · exact hstored.reportOpen (put_get_same _ _ _) hstate
      · exact hstored.reportEngaged (put_get_same _ _ _) hstate

theorem State.ReleasesSoundly.takeCoupleReport (h : s.ReleasesSoundly) (ch : Nat) (data : List Byte) :
    (s.takeCoupleReport ch data).ReleasesSoundly := by
  unfold State.takeCoupleReport
  split
  · exact h
  · exact h.reportCoupling _ _

theorem State.ReleasesSoundly.raiseAges (h : s.ReleasesSoundly) : s.raiseAges.ReleasesSoundly := by
  have htension : CouplingRecord.tension ∘ CouplingRecord.aged = CouplingRecord.tension := by
    funext r
    unfold Function.comp CouplingRecord.aged
    split <;> rfl
  refine h.of_kept (.of_items rfl rfl s.raiseAges_states fun _ k _ => ?_)
  rw [remap_get, Option.map_map, htension]

theorem State.ReleasesSoundly.staleStep (h : s.ReleasesSoundly) (i : Fin 48) : (s.staleStep i).ReleasesSoundly := by
  unfold State.staleStep
  split
  · exact h
  · rename_i r hr
    split
    · rename_i hstale
      have hbefore : r.state ≠ .releasing := by
        intro hstate
        simp [CouplingRecord.goesStale, hstate] at hstale
      have hstored := h.withCoupling (r := { r with state := .stale }) hr hbefore (by simp)
      exact (hstored.of_tow (State.raise_sameTow _ _ _)).afterChange
    · exact h

theorem State.ReleasesSoundly.holdStep (h : s.ReleasesSoundly) : s.holdStep.ReleasesSoundly := by
  have hitems (n m : Nat) : ({ s with coup := { s.coup with level := n, hold := m } } : State).ReleasesSoundly :=
    h.of_kept (.of_items rfl rfl (fun _ => rfl) fun _ _ _ => rfl)
  unfold State.holdStep
  dsimp only
  split_ifs
  · exact (hitems _ _).of_tow (State.raise_sameTow _ _ _)
  · exact hitems s.coup.level _
  · exact h

theorem State.ReleasesSoundly.pollStep (h : s.ReleasesSoundly) : s.pollStep.ReleasesSoundly := by
  unfold State.pollStep
  split
  · exact h
  · rename_i i _
    refine (h.of_tow (State.SameUnits.offerLow s .t .routine (s.couplePoll i)).sameTow).of_kept ?_
    exact .of_items rfl rfl (fun _ => rfl) fun _ _ _ => rfl

theorem State.ReleasesSoundly.pollExpiry (h : s.ReleasesSoundly) : s.pollExpiry.ReleasesSoundly := by
  have htimer : ({ s with coup := { s.coup with pollTimer := s.params.pollInterval } } : State).ReleasesSoundly :=
    h.of_kept (.of_items rfl rfl (fun _ => rfl) fun _ _ _ => rfl)
  unfold State.pollExpiry
  dsimp only
  split
  · exact (List.foldlRecOn _ _ htimer.pollStep.raiseAges fun _ ht i _ => ht.staleStep i).holdStep
  · exact htimer

/-- The record RELEASING, the slot OCCUPIED and the release timer loaded: what an accepted release makes of the tow (R136). -/
def State.accepted (i : Fin 48) (r : CouplingRecord) (s : State) : State :=
  { s with coup := { s.coup with
    records := put s.coup.records i (some { r with state := .releasing })
    slot := some i, releaseTimer := some s.params.releaseTimeout } }

theorem State.acceptRelease_eq (i : Fin 48) (r : CouplingRecord) (s : State) : s.acceptRelease i r =
    State.afterChange { s.accepted i r with comms := (s.offerUrgent .t (s.coupleCmd i cmdOpen)).comms } := rfl

/-- A release accepted with no interlock standing: the slot, the timer and the record go together (R136). -/
theorem State.SlotFits.accepted (h : s.SlotFits) {r : CouplingRecord} (hr : s.coup.records[i] = some r)
    (hslot : s.coup.slot = none) (hlock : s.firstLock i = none) : (s.accepted i r).ReleasesSoundly := by
  refine ⟨⟨fun k => ?_, rfl⟩, fun k c hk hlocks => ?_⟩
  · have hread : (s.accepted i r).releasing k = (s.withCoupling i { r with state := .releasing }).releasing k := by
      rw [State.releasing_eq, State.releasing_eq]
      rfl
    have hidle : s.releasing k = false := by
      rw [← Bool.not_eq_true, h.held, hslot]
      simp
    rw [hread, State.withCoupling_releasing, hidle]
    simp [State.accepted]
  · have hi : i = k := Option.some.inj hk
    subst hi
    have hfree := State.firstLock_eq_none.mp hlock c hlocks
    cases c with
    | underLoad =>
      have hload : (s.accepted i r).underLoad i = s.underLoad i := by
        rw [State.underLoad_eq, State.underLoad_eq, hr, State.accepted, put_get_same]
        rfl
      exact hload.trans hfree
    | _ => exact hfree

theorem State.SlotFits.acceptRelease (h : s.SlotFits) {r : CouplingRecord} (hr : s.coup.records[i] = some r)
    (hslot : s.coup.slot = none) (hlock : s.firstLock i = none) : (s.acceptRelease i r).ReleasesSoundly := by
  rw [State.acceptRelease_eq]
  refine State.ReleasesSoundly.afterChange ?_
  exact (h.accepted hr hslot hlock).of_tow ⟨rfl, rfl, rfl, rfl, rfl, rfl⟩

end Coupling

/-! ### The propulsion unit (chapters 3 and 4) -/

section Propulsion

variable {s u : State}

/-- Engine channels changed with none that was not in gear coming into gear. -/
theorem State.KeepsRelease.of_gears {p : PropulsionUnit}
    (hengines : ({ s with prop := p } : State).enginesEngaged = true → s.enginesEngaged = true) :
    s.KeepsRelease { s with prop := p } none :=
  .of_coup rfl rfl (fun _ => hengines) (fun _ => id) fun _ => id

theorem State.ReleasesSoundly.withChannel (h : s.ReleasesSoundly) {e : Fin 4} {c d : EngineChannel}
    (hc : s.prop.channels[e] = some c) (hgear : d.gear.inGear = true → c.gear.inGear = true) :
    (s.withChannel e d).ReleasesSoundly := by
  refine h.of_kept (.of_gears (State.enginesEngaged_of_gears fun k b hb hb' => ?_))
  rw [put_get] at hb
  split at hb
  · rename_i hk
    subst hk
    exact ⟨c, hc, hgear (Option.some.inj hb ▸ hb')⟩
  · exact ⟨b, hb, hb'⟩

theorem State.ReleasesSoundly.onChannel (h : s.ReleasesSoundly) (e : Fin 4) {f : EngineChannel → EngineChannel}
    (hf : ∀ c, (f c).gear.inGear = true → c.gear.inGear = true) : (s.onChannel e f).ReleasesSoundly := by
  unfold State.onChannel
  split
  · exact h
  · exact h.withChannel ‹_› (hf _)

theorem State.ReleasesSoundly.leversAccepted (h : s.ReleasesSoundly) (which : Fin 4 → Bool) :
    (s.leversAccepted which).ReleasesSoundly := by
  refine List.foldlRecOn _ _ h fun t ht e _ => ?_
  split
  · exact ht.onChannel e fun _ => id
  · exact ht

theorem State.ReleasesSoundly.trimStep (h : s.ReleasesSoundly) (e : Fin 4) : (s.trimStep e).ReleasesSoundly := by
  unfold State.trimStep
  dsimp only
  split
  · rename_i hc _ _
    split
    · exact h.withChannel hc id
    · exact h
  · exact h

theorem State.ReleasesSoundly.takeGovReport (h : s.ReleasesSoundly) (ch : Nat) (data : List Byte) :
    (s.takeGovReport ch data).ReleasesSoundly :=
  List.foldlRecOn _ _ (List.foldlRecOn _ _ h fun _ ht e _ => ht.onChannel e fun _ => id) fun _ ht e _ => ht.trimStep e

/-- After pass 1 an engine is in gear that was before or that has moved into gear (R71). -/
theorem State.driven_enginesEngaged (level elapsed : Nat)
    (h : (s.driven level elapsed fun _ => true).enginesEngaged = true) :
    s.enginesEngaged = true ∨ (List.finRange 4).any s.movesIntoGear = true := by
  obtain ⟨e, d, hd, hgear⟩ := (State.enginesEngaged_iff _).mp h
  rw [State.driven_channel, if_pos rfl] at hd
  obtain ⟨c, hc, rfl⟩ := Option.map_eq_some_iff.mp hd
  have hnow : (s.geared e c).gear.inGear = true := hgear
  by_cases hmoved : (s.geared e c).gear = c.gear
  · exact .inl (s.enginesEngaged_iff.mpr ⟨e, c, hc, hmoved ▸ hnow⟩)
  · refine .inr (List.any_eq_true.mpr ⟨e, List.mem_finRange e, ?_⟩)
    rw [State.movesIntoGear, hc, Option.any_some]
    exact decide_eq_true ⟨hmoved, hnow⟩

theorem State.synchronized_enginesEngaged (h : s.synchronized.enginesEngaged = true) : s.enginesEngaged = true := by
  have hgear (g : Nat) (e : Fin 4) (c : EngineChannel) : (s.synced g e c).gear = c.gear := by
    unfold State.synced
    split <;> rfl
  refine State.enginesEngaged_of_gears (fun e d hd hin => ?_) h
  rw [State.synchronized, remap_get] at hd
  obtain ⟨c, hc, rfl⟩ := Option.map_eq_some_iff.mp hd
  rw [hgear, hgear] at hin
  exact ⟨c, hc, hin⟩

theorem State.pacedOn_enginesEngaged {on : Fin 4 → Bool} (h : (s.pacedOn on).enginesEngaged = true) :
    s.enginesEngaged = true := by
  refine State.enginesEngaged_of_gears (fun e d hd hin => ?_) h
  rw [State.pacedOn_channel] at hd
  split at hd
  · obtain ⟨c, hc, rfl⟩ := Option.map_eq_some_iff.mp hd
    exact ⟨c, hc, hin⟩
  · exact ⟨d, hd, hin⟩

/-- Targets set to 0 leave every output (R90). -/
theorem State.withDrive_bowActive (p : PropulsionUnit) (on : Fin 8 → Bool) (h : (s.withDrive p on).bowActive = true) :
    s.bowActive = true := by
  have houtput (b : Bool) (a : Actuator) : (a.zeroedIf b).output = a.output := by cases b <;> rfl
  refine State.bowActive_of_outputs (u := s.withDrive p on) rfl (fun j b hb hout => ?_) h
  rw [State.withDrive, remap_get] at hb
  obtain ⟨a, ha, rfl⟩ := Option.map_eq_some_iff.mp hb
  exact ⟨a, ha, houtput _ a ▸ hout⟩

/-- A ramp-timer expiry tells the release controller of every channel that has moved into gear (R71, R139). -/
theorem State.ReleasesSoundly.rampExpiry (h : s.ReleasesSoundly) : s.rampExpiry.ReleasesSoundly := by
  have hbow : (s.passedOne.synchronized.pacedOn fun _ => true).bowActive = s.passedOne.bowActive := rfl
  have hkept : s.KeepsRelease (s.passedOne.synchronized.pacedOn fun _ => true) (some .enginesEngaged) :=
    .of_coup rfl rfl (fun hne => absurd rfl hne) (fun _ => id) fun _ hon => by
      rw [hbow, State.passedOne, State.driven] at hon
      exact State.withDrive_bowActive _ _ hon
  have htold := h.tellEngaged (b := (List.finRange 4).any s.movesIntoGear) hkept fun hon =>
    State.driven_enginesEngaged (s := { s with prop := { s.prop with rampTimer := s.params.propInterval } }) _ _
      (State.synchronized_enginesEngaged (State.pacedOn_enginesEngaged hon))
  rw [State.rampExpiry_eq]
  refine List.foldlRecOn _ _ htold fun t ht e _ => ?_
  cases s.passedOne.synchronized.govFrame e with
  | none => exact ht
  | some f => exact ht.of_tow ⟨rfl, rfl, rfl, rfl, rfl, rfl⟩

end Propulsion

/-! ### The steering unit (chapter 5) -/

section Steering

variable {s : State} {j : Fin 8}

/-- A record stored: of the conditions BOW_ACTIVE alone may come about. -/
theorem State.KeepsRelease.withActuator (b : Actuator) : s.KeepsRelease (s.withActuator j b) (some .bowActive) :=
  .of_coup rfl rfl (fun _ => id) (fun _ => id) fun h => absurd rfl h

/-- A record stored that leaves BOW_ACTIVE off if it was off. -/
theorem State.ReleasesSoundly.withActuator (h : s.ReleasesSoundly) {b : Actuator}
    (hb : (s.withActuator j b).bowActive = true → s.bowActive = true) : (s.withActuator j b).ReleasesSoundly :=
  h.of_kept (.of_coup rfl rfl (fun _ => id) (fun _ => id) fun _ => hb)

theorem State.withActuator_bowActive {a b : Actuator} (ha : s.steer.actuators[j] = some a)
    (hout : b.output ≠ 0 → a.output ≠ 0) (h : (s.withActuator j b).bowActive = true) : s.bowActive = true := by
  rcases State.bowActive_withActuator h with hon | ⟨hkind, hb⟩
  · exact hon
  · exact s.bowActive_iff.mpr ⟨j, a, ha, hkind, hout hb⟩

/-- A change of BOW_ACTIVE is told (R104, R139). -/
theorem State.ReleasesSoundly.watchBow (h : s.ReleasesSoundly) (b : Actuator) :
    (State.watchBow s (s.withActuator j b)).ReleasesSoundly := by
  rw [State.watchBow_eq]
  split
  · exact h.checkLock (.withActuator b)
  · rename_i hquiet
    refine h.withActuator fun hon => ?_
    by_contra hoff
    exact hquiet ⟨by simpa using hoff, hon⟩

theorem State.ReleasesSoundly.steerActuator (h : s.ReleasesSoundly) (level elapsed : Nat) (j : Fin 8) :
    (s.steerActuator level elapsed j).ReleasesSoundly := by
  have hoffered {t : State} (ht : t.ReleasesSoundly) (p : Port) (f : Frame) : (t.offerUrgent p f).ReleasesSoundly :=
    ht.of_tow ⟨rfl, rfl, rfl, rfl, rfl, rfl⟩
  unfold State.steerActuator
  split
  · exact h
  · rename_i a ha
    dsimp only
    split
    · exact h
    · exact h
    · exact hoffered (h.watchBow _) _ _
    · exact hoffered (h.withActuator (b := { a with target := s.steerTarget level j })
        (State.withActuator_bowActive ha id)) _ _

theorem State.ReleasesSoundly.steeringExpiry (h : s.ReleasesSoundly) : s.steeringExpiry.ReleasesSoundly :=
  List.foldlRecOn _ _ (h.of_tow ⟨rfl, rfl, rfl, rfl, rfl, rfl⟩) fun _ ht j _ => ht.steerActuator _ _ j

theorem State.ReleasesSoundly.reportTo (h : s.ReleasesSoundly) (v : Int) (j : Fin 8) : (s.reportTo v j).ReleasesSoundly := by
  unfold State.reportTo
  split
  · exact h
  · rename_i a ha
    have hsame {b : Actuator} (hb : b.output = a.output) : (s.withActuator j b).ReleasesSoundly :=
      h.withActuator (State.withActuator_bowActive ha fun hout => hb ▸ hout)
    dsimp only
    split
    · exact h.watchBow _
    · split
      · exact State.ReleasesSoundly.of_tow (hsame (by rfl)) (State.raise_sameTow _ _ _)
      · exact hsame rfl
    · exact hsame rfl
    · exact hsame rfl

theorem State.ReleasesSoundly.takeRudReport (h : s.ReleasesSoundly) (p : Port) (ch : Nat) (data : List Byte) :
    (s.takeRudReport p ch data).ReleasesSoundly :=
  List.foldlRecOn _ _ h fun _ ht j _ => ht.reportTo _ j

/-- An actuator reset keeps its output or is gated (R101, R102). -/
theorem State.ReleasesSoundly.realign (h : s.ReleasesSoundly) {a : Actuator} (ha : s.steer.actuators[j] = some a) :
    ((s.withActuator j (a.align a.output)).gateActuator j).ReleasesSoundly := by
  have hstored : (s.withActuator j (a.align a.output)).ReleasesSoundly :=
    h.withActuator (State.withActuator_bowActive ha id)
  have hhelm : ((s.withActuator j (a.align a.output)).gateActuator j).helmOffCentre =
    (s.withActuator j (a.align a.output)).helmOffCentre := State.helmOffCentre_congr (by simp) (by simp)
  have hengines : ((s.withActuator j (a.align a.output)).gateActuator j).enginesEngaged =
    (s.withActuator j (a.align a.output)).enginesEngaged := State.enginesEngaged_congr (by simp)
  exact hstored.of_kept (.of_coup (State.couplingEntry_of_mgmt (by simp)) (by simp) (fun _ => by rw [hengines]; exact id)
    (fun _ => by rw [hhelm]; exact id) fun _ => State.gateActuator_bowActive j)

end Steering

/-! ### The station unit (chapter 2) -/

section Station

variable {s : State}

theorem State.ReleasesSoundly.leverFrom (h : s.ReleasesSoundly) (data : List Byte) (i : Fin 4) :
    (s.leverFrom data i).ReleasesSoundly := by
  unfold State.leverFrom
  dsimp only
  split
  · refine State.ReleasesSoundly.leversAccepted ?_ _
    exact h.of_tow ⟨rfl, rfl, rfl, rfl, rfl, rfl⟩
  · exact h.of_tow ⟨rfl, rfl, rfl, rfl, rfl, rfl⟩

/-- A helm demand accepted is told (R29, R139). -/
theorem State.ReleasesSoundly.helmFrom (h : s.ReleasesSoundly) (data : List Byte) (i : Fin 4) :
    (s.helmFrom data i).ReleasesSoundly := by
  unfold State.helmFrom
  dsimp only
  split
  · refine h.checkLock ?_
    exact .of_coup rfl rfl (fun _ => id) (fun hne => absurd rfl hne) fun _ => id
  · exact h.of_tow ⟨rfl, rfl, rfl, rfl, rfl, rfl⟩

/-- Command moves only while the slot is EMPTY (R32). -/
theorem State.ReleasesSoundly.takeFrom (h : s.ReleasesSoundly) (data : List Byte) (i : Fin 4) :
    (s.takeFrom data i).ReleasesSoundly := by
  rw [State.takeFrom_eq]
  split
  · rename_i hgranted
    exact h.toSlotFits.of_idle hgranted.2.1 (by simp [State.grantTake])
  · exact h

theorem State.ReleasesSoundly.watchFrom (h : s.ReleasesSoundly) (i : Fin 4) : (s.watchFrom i).ReleasesSoundly := by
  unfold State.watchFrom
  split
  · exact h.of_tow ⟨by simp, by simp, by simp, by simp, by simp, by simp⟩
  · exact h

theorem State.ReleasesSoundly.stationFrame (h : s.ReleasesSoundly) (k : StationKind) (ch : Nat) (data : List Byte)
    {handle : Fin 4 → State → State} (hh : ∀ i (t : State), t.ReleasesSoundly → (handle i t).ReleasesSoundly) :
    (s.stationFrame k ch data handle).ReleasesSoundly := by
  unfold State.stationFrame
  dsimp only
  split
  · exact h
  · split
    · exact h.of_tow ⟨rfl, rfl, rfl, rfl, rfl, rfl⟩
    · exact hh _ _ (h.of_tow ⟨rfl, rfl, rfl, rfl, rfl, rfl⟩)

end Station

end Sys2Proof.Machine
end

section
/-! PROOF. Every step keeps the derate level and the release slot sound (EveryStepKeepsDerateAndRelease): the tables opened,
written and closed, the other commands, the restarts, every rule of the units, and the step (R124, R133, R139). -/

namespace Sys2Proof.Machine

/-! ### Tables opened, written and closed (R82, R105, R129, R185 to R190) -/

section Tables

variable {s : State}

/-- Table memory changed that leaves the COUPLING and the ACTUATOR entries. -/
theorem State.ReleasesSoundly.withTables (h : s.ReleasesSoundly) {m : TableUnit}
    (hcoupling : (({ s with mgmt := m } : State).table .coupling).words = (s.table .coupling).words)
    (hactuator : (({ s with mgmt := m } : State).table .actuator).words = (s.table .actuator).words) :
    ({ s with mgmt := m } : State).ReleasesSoundly :=
  h.of_kept (.of_coup (State.couplingEntry_of_words hcoupling) rfl (fun _ => id) (fun _ => id) fun _ =>
    State.bowActive_of_outputs (State.actuatorEntry_of_words hactuator) fun _ b hb hout => ⟨b, hb, hout⟩)

/-- Table memory and actuators changed that leave the COUPLING entries and every output at 0. -/
theorem State.ReleasesSoundly.withStill (h : s.ReleasesSoundly) {m : TableUnit} {v : SteeringUnit}
    (hcoupling : (({ s with mgmt := m } : State).table .coupling).words = (s.table .coupling).words)
    (hstill : ∀ (j : Fin 8) (a : Actuator), v.actuators[j] = some a → a.output = 0) :
    ({ s with mgmt := m, steer := v } : State).ReleasesSoundly := by
  have hoff : ¬({ s with mgmt := m, steer := v } : State).bowActive = true := by
    rw [State.bowActive_iff]
    rintro ⟨j, a, ha, -, hout⟩
    exact hout (hstill j a ha)
  exact h.of_kept (.of_coup (State.couplingEntry_of_words hcoupling) rfl (fun _ => id) (fun _ => id) fun _ hon =>
    absurd hon hoff)

/-- While COUPLING is being loaded no release is in hand (R129, R133). -/
theorem State.SlotFits.idle_of_loading (h : s.SlotFits) (hrecords : s.RecordsFit)
    (hloading : (s.table .coupling).state = .loading) : s.coup.slot = none := by
  cases hslot : s.coup.slot with
  | none => rfl
  | some i =>
    obtain ⟨r, hr, -⟩ := h.record_of_slot hslot
    have hnone := congrFun (hrecords.none_of_not_ready (t := .coupling) (by simp [hloading])) i
    rw [State.presence_coupling hr] at hnone
    cases hnone

theorem State.SlotFits.timed_none (h : s.SlotFits) (hslot : s.coup.slot = none) : s.coup.releaseTimer = none := by
  have htimed := h.timed
  rw [hslot] at htimed
  exact Option.not_isSome_iff_eq_none.mp (by simp [← htimed])

/-- The coupling records cease or come into being while no release is in hand (R129, R130). -/
theorem State.ReleasesSoundly.of_records {u : State} {v : Vector (Option CouplingRecord) 48} (h : s.SlotFits)
    (hslot : s.coup.slot = none)
    (hu : u.coup.records = v ∧ u.coup.slot = s.coup.slot ∧ u.coup.releaseTimer = s.coup.releaseTimer)
    (hnone : ∀ (i : Fin 48) (r : CouplingRecord), v[i] = some r → r.state ≠ .releasing) : u.ReleasesSoundly := by
  obtain ⟨rfl, huslot, hutimer⟩ := hu
  refine .of_none (huslot.trans hslot) (hutimer.trans (h.timed_none hslot)) fun i => ?_
  rw [State.releasing_eq]
  cases hr : u.coup.records[i] with
  | none => rfl
  | some r => exact decide_eq_false (hnone i r hr)

theorem State.dropCouplings_tow (s : State) : s.dropCouplings.coup.records = Vector.replicate 48 none ∧
    s.dropCouplings.coup.slot = s.coup.slot ∧ s.dropCouplings.coup.releaseTimer = s.coup.releaseTimer := by
  rw [State.dropCouplings, State.tellSteering_coup]
  exact ⟨rfl, rfl, rfl⟩

theorem State.createCouplings_tow (s : State) : s.createCouplings.coup.records =
      (Vector.ofFn fun i => if s.couplingEnabled i then some newCoupling else none) ∧
    s.createCouplings.coup.slot = s.coup.slot ∧ s.createCouplings.coup.releaseTimer = s.coup.releaseTimer := by
  rw [State.createCouplings, (State.afterChange_tow _).1, (State.afterChange_tow _).2.1, (State.afterChange_tow _).2.2]
  exact ⟨rfl, rfl, rfl⟩

theorem State.SlotFits.dropCouplings (h : s.SlotFits) (hslot : s.coup.slot = none) : s.dropCouplings.ReleasesSoundly := by
  refine .of_records h hslot s.dropCouplings_tow fun i r hr => ?_
  rw [replicate_get] at hr
  cases hr

/-- New coupling records are UNKNOWN (R130). -/
theorem State.SlotFits.createCouplings (h : s.SlotFits) (hslot : s.coup.slot = none) :
    s.createCouplings.ReleasesSoundly := by
  refine .of_records h hslot s.createCouplings_tow fun i r hr => ?_
  simp only [Fin.getElem_fin, Vector.getElem_ofFn] at hr
  obtain ⟨-, hnew⟩ := Option.ite_none_right_eq_some.mp hr
  rw [← Option.some.inj hnew]
  simp [newCoupling]

/-- New actuator records are at output 0 (R97, R105). -/
theorem State.ReleasesSoundly.createActuators (h : s.ReleasesSoundly) : s.createActuators.ReleasesSoundly := by
  rw [State.createActuators]
  refine State.ReleasesSoundly.tellSteering (h.withStill (m := s.mgmt) (v := { s.steer with
    actuators := Vector.ofFn fun j => if s.actuatorEnabled j then some newActuator else none }) rfl fun j a ha => ?_)
  simp only [Fin.getElem_fin, Vector.getElem_ofFn] at ha
  obtain ⟨-, hnew⟩ := Option.ite_none_right_eq_some.mp ha
  rw [← Option.some.inj hnew]
  rfl

/-- An open ends the records of its unit; COUPLING is not opened while a release is in hand (R82, R105, R129, R186). -/
theorem State.ReleasesSoundly.openTable (h : s.ReleasesSoundly) {t : TableId} (n : Nat) (hfree : s.inUse t = false) :
    (s.openTable t n).ReleasesSoundly := by
  have hother (v : TableId) (ht : t ≠ v) : ((s.withTable t (loadingTable t n)).table v).words = (s.table v).words := by
    rw [State.withTable_table, if_neg ht]
  have hopened (hc : t ≠ .coupling) (ha : t ≠ .actuator) : ({ s.withTable t (loadingTable t n) with mgmt :=
      { (s.withTable t (loadingTable t n)).mgmt with loadSlot := some t, writeIndex := 0 } } : State).ReleasesSoundly :=
    h.withTables (hother .coupling hc) (hother .actuator ha)
  unfold State.openTable
  cases t with
  | actuator =>
    refine h.withStill (v := { s.steer with actuators := Vector.replicate 8 none }) (hother .coupling (by decide)) fun j a ha => ?_
    rw [replicate_get] at ha
    cases ha
  | engine =>
    refine (hopened (by decide) (by decide)).of_kept (.of_gears (State.enginesEngaged_of_gears fun e d hd _ => ?_))
    rw [replicate_get] at hd
    cases hd
  | coupling =>
    have hslot : s.coup.slot = none := by simpa [State.inUse] using hfree
    refine State.SlotFits.dropCouplings (State.ReleasesSoundly.toSlotFits ?_) hslot
    exact h.toSlotFits.of_idle hslot rfl
  | tank => exact (hopened (by decide) (by decide)).of_tow ⟨rfl, rfl, rfl, rfl, rfl, rfl⟩
  | _ => exact hopened (by decide) (by decide)

/-- Words are stored in the table being loaded: if it is COUPLING no release is in hand, if ACTUATOR there is no actuator
(R187). -/
theorem State.ReleasesSoundly.written (h : s.ReleasesSoundly) (hrecords : s.RecordsFit) {t : TableId} (new : List Word)
    (hloading : (s.table t).state = .loading) : (s.written t new).ReleasesSoundly := by
  have hother (v : TableId) (ht : t ≠ v) : ((s.written t new).table v).words = (s.table v).words :=
    congrArg Table.words ((State.withTable_table t v _ s).trans (if_neg ht))
  by_cases hc : t = .coupling
  · subst hc
    exact h.toSlotFits.of_idle (h.toSlotFits.idle_of_loading hrecords hloading) rfl
  · by_cases ha : t = .actuator
    · subst ha
      refine h.withStill (v := s.steer) (hother .coupling hc) fun j a ha => ?_
      rw [State.no_actuator_of_not_ready hrecords (by simp [hloading])] at ha
      cases ha
    · exact h.withTables (hother .coupling hc) (hother .actuator ha)

/-- The end of a load leaves the words of every table. -/
theorem State.ReleasesSoundly.endLoad (h : s.ReleasesSoundly) (t : TableId) (st : TableState) (cause : Cause) :
    (s.endLoad t st cause).ReleasesSoundly := by
  have hwords (v : TableId) : ((s.endLoad t st cause).table v).words = (s.table v).words := by
    rw [State.endLoad_table]
    split
    · rename_i ht
      rw [ht]
    · rfl
  exact h.withTables (hwords .coupling) (hwords .actuator)

theorem newChannel_open (idle load : Nat) : (newChannel idle load).gear.inGear = false := by
  rw [newChannel, EngineChannel.enterDwell]
  split <;> rfl

/-- The reading unit of a table that becomes READY brings its records into being at rest (R64, R105, R130). -/
theorem State.ReleasesSoundly.afterReady (h : s.ReleasesSoundly) (t : TableId)
    (hidle : t = .coupling → s.coup.slot = none) : (s.afterReady t).ReleasesSoundly := by
  cases t with
  | engine =>
    refine h.of_kept (.of_gears (State.enginesEngaged_of_gears fun e d hd hgear => ?_))
    simp only [Fin.getElem_fin, Vector.getElem_ofFn] at hd
    obtain ⟨-, hnew⟩ := Option.ite_none_right_eq_some.mp hd
    rw [← Option.some.inj hnew, newChannel_open] at hgear
    cases hgear
  | actuator => exact h.createActuators
  | coupling => exact h.toSlotFits.createCouplings (hidle rfl)
  | _ => exact h.of_tow ⟨by simp [State.afterReady], by simp [State.afterReady], by simp [State.afterReady],
      by simp [State.afterReady], by simp [State.afterReady], by simp [State.afterReady]⟩

end Tables

/-! ### The commands (R193) and the restarts (R198, R199) -/

section Rules

variable {s : State}

/-- Only CENTRE_WINDOW is an interlock's parameter, and its change is told (R134, R139, R194). -/
theorem State.ReleasesSoundly.storeParam (h : s.ReleasesSoundly) (p : Param) (v : Nat) : (s.storeParam p v).ReleasesSoundly := by
  unfold State.storeParam
  dsimp only
  split
  · refine h.checkLock ?_
    exact .of_coup rfl rfl (fun _ => id) (fun hne => absurd rfl hne) fun _ => id
  · rename_i hsame
    refine h.of_tow ⟨rfl, rfl, rfl, rfl, rfl, ?_⟩
    by_cases hp : p = .centreWindow
    · subst hp
      exact not_not.mp fun hv => hsame ⟨rfl, hv⟩
    · cases p <;> first | rfl | exact absurd rfl hp

theorem State.ReleasesSoundly.commandLeaves (h : s.ReleasesSoundly) (htables : s.TablesFit) (hrecords : s.RecordsFit)
    {u : State} (hu : s.CommandLeaves u) : u.ReleasesSoundly := by
  have hloading {t : TableId} (hslot : s.mgmt.loadSlot = some t) : (s.table t).state = .loading :=
    (htables.each t).held_iff.mp hslot
  cases hu with
  | quiet hu => exact h.of_tow hu
  | opened t n hfree => exact h.openTable n hfree
  | written t new hslot => exact h.written hrecords new (hloading hslot)
  | loaded t hslot =>
    refine (h.endLoad t .ready .none).afterReady t fun ht => ?_
    exact h.toSlotFits.idle_of_loading hrecords (hloading (ht ▸ hslot))
  | rejected t cause => exact (h.endLoad t .rejected cause).of_tow (State.raise_sameTow _ _ _)
  | stored p v => exact h.storeParam p v
  | accepted i r hr hslot hlock => exact h.toSlotFits.acceptRelease hr hslot hlock
  | detached i r hr hstate =>
    exact (h.withCoupling (r := { r with state := .released }) hr hstate (by simp)).afterChange
  | attached i r hr hstate =>
    exact (h.withCoupling (r := { r with state := .unknown, age := 0 }) hr (by simp [hstate]) (by simp)).afterChange
  | realigned j a ha => exact h.realign ha

/-- After a warm restart no release is in hand (R132, R144). -/
theorem State.warm_releasesSoundly (straps : Straps) (s : State) : (s.warm straps).ReleasesSoundly := by
  obtain ⟨-, hslot, htimer⟩ := s.warm_coup_timers straps
  have hrestarted (r : CouplingRecord) : r.restarted.state ≠ .releasing := by
    unfold CouplingRecord.restarted
    split
    · simp [*]
    · simp
  refine .of_none hslot htimer fun i => ?_
  rw [State.releasing_eq]
  cases hready : s.ready .coupling with
  | false => rw [(s.warm_coup_not_ready straps hready).1]; rfl
  | true =>
    obtain ⟨-, -, -, hrecords⟩ := s.warm_coup_ready straps hready
    rw [hrecords]
    cases s.coup.records[i] with
    | none => rfl
    | some r => exact decide_eq_false (hrestarted r)

/-- Every rule of the units keeps the release slot sound. -/
theorem State.ReleasesSoundly.rulesGive (h : s.ReleasesSoundly) (htables : s.TablesFit) (hrecords : s.RecordsFit) :
    s.RulesGive State.ReleasesSoundly where
  free hu ht := ht.of_tow hu.sameTow
  idle := h
  command code args := h.commandLeaves htables hrecords (commandBody_leaves code args s)
  lever ch data := h.stationFrame .lever ch data fun i _ ht => ht.leverFrom data i
  helm ch data := h.stationFrame .helm ch data fun i _ ht => ht.helmFrom data i
  take ch data := h.stationFrame .take ch data fun i _ ht => ht.takeFrom data i
  watch ch data := h.stationFrame .watch ch data fun i _ ht => ht.watchFrom i
  govReport ch data := h.takeGovReport ch data
  rudReport p ch data := h.takeRudReport p ch data
  coupleReport ch data := h.takeCoupleReport ch data
  flow ch data := h.of_tow ⟨by simp, by simp, by simp, by simp, by simp, by simp⟩
  ramp := h.rampExpiry
  dwell e t ht := by
    obtain rfl := Host.Outcome.next.inj ht
    split
    · exact h
    · refine h.onChannel e fun c => ?_
      split_ifs with _ hgear
      · exact id
      · exact fun hin => absurd hin (by simp [Gear.inGear])
      · exact id
  freshness e t ht := by
    have hheld (load : Nat) (c : EngineChannel) : (c.hold load).gear = c.gear := by
      unfold EngineChannel.hold
      split <;> rfl
    obtain rfl := Host.Outcome.next.inj ht
    split
    · exact h
    · split
      · exact h
      · rename_i c hc
        split
        · exact h
        · exact (h.withChannel hc (by rw [hheld]; exact id)).of_tow (State.raise_sameTow _ _ _)
  hold e t ht := by
    obtain rfl := Host.Outcome.next.inj ht
    split
    · exact h
    · refine h.onChannel e fun c => ?_
      split <;> exact id
  steering := h.steeringExpiry
  helmTimer t ht := by
    obtain rfl := Host.Outcome.next.inj ht
    split
    · exact h
    · exact h.of_tow ⟨rfl, rfl, rfl, rfl, rfl, rfl⟩
  poll := h.pollExpiry
  release t ht := by
    obtain rfl := Host.Outcome.next.inj ht
    split
    · exact h
    · split
      · rename_i hslot
        exact .of_records h.toSlotFits hslot ⟨rfl, rfl, by simp [h.timed_none hslot]⟩ fun i r hr hstate => by
          simpa [hslot] using h.slot_of_releasing hr hstate
      · exact h.toSlotFits.failRelease ‹_›
  coldStart straps := .of_none rfl rfl fun i => by
    rw [State.releasing_eq, State.coldStart, State.poweredOn, replicate_get]
    rfl
  warm straps := s.warm_releasesSoundly straps

end Rules

/-! ### The step -/

/-- What the rules keep, a step keeps: it idles, or carries out the front command. -/
theorem step_of_rules {P : State → Prop} {s t : State} (h : P s) (hrest : ∀ rest, State.RulesGive P { s with pending := rest })
    (hstep : step s = .next t) : P t := by
  unfold step at hstep
  split at hstep
  · obtain rfl := Host.Outcome.next.inj hstep
    exact h
  · exact (hrest _).exec _ hstep

/-- Settles O58. -/
theorem everyStepKeepsDerateAndRelease : Obligations.EveryStepKeepsDerateAndRelease := by
  refine ⟨fun s t htables hs hstep => ?_, fun s t htables hrecords hs hstep => ?_⟩
  · rw [State.tablesSound_iff] at htables
    rw [State.derateSound_iff] at hs ⊢
    refine step_of_rules hs (fun rest => ?_) hstep
    have hrest : ({ s with pending := rest } : State).Derated := hs.of_units rfl rfl
    exact hrest.rulesGive ⟨htables.each, htables.within⟩
  · rw [State.tablesSound_iff] at htables
    rw [State.recordsSound_iff] at hrecords
    rw [State.releaseSound_iff] at hs ⊢
    refine step_of_rules hs (fun rest => ?_) hstep
    have hrest : ({ s with pending := rest } : State).ReleasesSoundly := hs.of_tow ⟨rfl, rfl, rfl, rfl, rfl, rfl⟩
    exact hrest.rulesGive ⟨htables.each, htables.within⟩ hrecords

end Sys2Proof.Machine
end

section
/-! PROOF. How a release ends that did not complete (R119, R139 to R141), and a COUPLE-REPORT with pin ENGAGED (R109, R115, R117,
R118). -/

namespace Sys2Proof.Machine

/-! ### The end of a release (R119, R140, R141) -/

section Ending

variable {s : State} {i : Fin 48} {r : CouplingRecord}

/-- The state a RELEASING record is classified in: PARTED with an open pin, else by its tension with no hysteresis (R118,
R119). -/
def CouplingRecord.settled (x : CouplingEntry) (r : CouplingRecord) : CouplingState :=
  if r.pinOpen then .parted else if x.top < r.tension then .overload else if r.tension < x.slack then .slack else .made

theorem classify_releasing (x : CouplingEntry) (t : Nat) : classify x .releasing t =
    if x.top < t then .overload else if t < x.slack then .slack else .made := by
  simp [classify]

/-- The notice of a classification at the end of a release (R116, R118). -/
def State.settleNotice (i : Fin 48) (st : CouplingState) (s : State) : State :=
  if st = .parted then s.raise .couplingParted i.val
  else if st = .overload then s.raise .couplingOverload i.val else s

/-- A RELEASING record is classified afresh from its last report (R119). -/
theorem State.classifyLast_releasing (hr : s.coup.records[i] = some r) (hstate : r.state = .releasing) :
    s.classifyLast i = (s.withCoupling i { r with state := r.settled (s.couplingEntry i) }).settleNotice i
      (r.settled (s.couplingEntry i)) := by
  rw [State.classifyLast, hr]
  dsimp only
  by_cases hpin : r.pinOpen = true
  · have hsettled : r.settled (s.couplingEntry i) = .parted := if_pos hpin
    rw [if_pos hpin, hsettled]
    rfl
  · have hsettled : r.settled (s.couplingEntry i) = classify (s.couplingEntry i) r.state r.tension := by
      rw [CouplingRecord.settled, if_neg hpin, hstate, classify_releasing]
    have hengaged : r.settled (s.couplingEntry i) ≠ .parted := by
      rw [CouplingRecord.settled, if_neg hpin]
      split_ifs <;> simp
    rw [if_neg hpin, State.settleNotice, if_neg hengaged, State.classified, ← hsettled]
    simp [hstate]

/-- The state at the end of a release, before derate and steering are told: HOLD offered, the slot EMPTY, the timer stopped, the
record settled (R119, R140, R141). -/
def State.settledRelease (i : Fin 48) (r : CouplingRecord) (s : State) : State :=
  State.settleNotice i (r.settled (s.couplingEntry i))
    { s.offerUrgent .t (s.coupleCmd i cmdHold) with coup := { s.coup with
        records := put s.coup.records i (some { r with state := r.settled (s.couplingEntry i) })
        slot := none, releaseTimer := none } }

theorem State.endRelease_eq (hr : s.coup.records[i] = some r) (hstate : r.state = .releasing) :
    s.endRelease i = (s.settledRelease i r).afterChange := by
  have hnotice (st : CouplingState) (t : State) : (t.settleNotice i st).emptySlot = t.emptySlot.settleNotice i st := by
    unfold State.settleNotice
    split_ifs <;> rfl
  rw [State.endRelease, State.classifyLast_releasing (s := (s.offerUrgent .t (s.coupleCmd i cmdHold)).stopRelease) hr hstate,
    hnotice]
  rfl

end Ending

/-- Settles O26. -/
theorem abortAndTimeoutEndRelease : Obligations.AbortAndTimeoutEndRelease := by
  intro i r s hslot hr hstate x st held ended told
  have hended : s.endRelease i = told.afterChange := State.endRelease_eq hr hstate
  refine ⟨fun c hlock hholds => ?_, fun c hfree => ?_, fun hrestart htimer => ?_⟩
  · rw [State.checkLock_locked hslot hlock hholds, State.abortRelease_eq, hended]
  · refine State.checkLock_free fun k hk hlock => ?_
    obtain rfl : i = k := Option.some.inj (hslot.symm.trans hk)
    exact hfree.resolve_left fun hoff => absurd (hoff.symm.trans hlock) (by simp)
  · have hruns : (s.restart.isSome || s.coup.releaseTimer.isNone) = false := by
      simpa [hrestart, ← Option.isSome_iff_ne_none] using htimer
    show Host.Outcome.next (if s.restart.isSome || s.coup.releaseTimer.isNone then s
      else match s.coup.slot with
        | none => s.stopRelease
        | some i => s.failRelease i) = _
    rw [hruns, hslot, if_neg (by simp)]
    dsimp only
    rw [State.failRelease_eq, hended]

/-! ### The entry in use, and the record a report names (R109, R115) -/

/-- A coupling is enabled by the words of its entry in a READY table (R108). -/
theorem State.couplingEnabled_iff (s : State) (i : Fin 48) :
    s.couplingEnabled i = true ↔ (s.table .coupling).state = .ready ∧ i.val < (s.table .coupling).count ∧
      s.entryWord .coupling i.val 0 ≠ 0 := by
  simp [State.couplingEnabled, State.reaches_iff, and_assoc]

section Naming

variable {s : State} {ch sub : Nat}

/-- A coupling record with a channel and sub-index. -/
def State.couplingAt (s : State) (ch sub : Nat) (k : Fin 48) : Prop :=
  s.coup.records[k] ≠ none ∧ (s.couplingEntry k).channel = ch ∧ (s.couplingEntry k).sub = sub

theorem State.couplingFor_eq_some {i : Fin 48} :
    s.couplingFor ch sub = some i ↔ s.couplingAt ch sub i ∧ ∀ k < i, ¬s.couplingAt ch sub k := by
  rw [State.couplingFor, ← Fin.find?_eq_find?_finRange, Fin.find?_eq_some_iff]
  simp [State.couplingAt, Option.isSome_iff_ne_none]

theorem State.couplingFor_eq_none : s.couplingFor ch sub = none ↔ ∀ k, ¬s.couplingAt ch sub k := by
  simp [State.couplingFor, State.couplingAt, Option.isSome_iff_ne_none]

end Naming

/-! ### A report with pin ENGAGED (R117, R118) -/

section Engaged

variable {s : State} {i : Fin 48} {r : CouplingRecord}

theorem State.reportEngaged_released (h : r.state = .released) : s.reportEngaged i r = s := by
  rw [State.reportEngaged, h]

theorem State.reportEngaged_other (hreleased : r.state ≠ .released) (hreleasing : r.state ≠ .releasing) :
    s.reportEngaged i r = s.reclassified i r := by
  obtain ⟨state, tension, pinOpen, age⟩ := r
  cases state <;> first | rfl | contradiction

theorem State.reclassified_same (h : classify (s.couplingEntry i) r.state r.tension = r.state) : s.reclassified i r = s :=
  if_pos h

/-- A record that changes its state: entering OVERLOAD is told, and derate and steering follow (R118, R123). -/
theorem State.reclassified_changed {st : CouplingState} (h : classify (s.couplingEntry i) r.state r.tension = st)
    (hchanged : st ≠ r.state) : s.reclassified i r = State.afterChange
      (if st = .overload then (s.withCoupling i { r with state := st }).raise .couplingOverload i.val
      else s.withCoupling i { r with state := st }) := by
  subst h
  rw [State.reclassified, if_neg hchanged, State.classified]
  by_cases hover : classify (s.couplingEntry i) r.state r.tension = .overload
  · have hbefore : r.state ≠ .overload := fun hb => hchanged (hover.trans hb.symm)
    rw [if_pos ⟨hover, hbefore⟩, if_pos hover]
  · rw [if_neg (fun hb => hover hb.1), if_neg hover]

theorem State.withCoupling_withCoupling (r d : CouplingRecord) : (s.withCoupling i r).withCoupling i d = s.withCoupling i d := by
  simp only [State.withCoupling, put_put]

end Engaged

/-- Settles O22. -/
theorem engagedReportClassifies : Obligations.EngagedReportClassifies := by
  refine ⟨fun k s => ?_, fun ch data s hs hlen => ?_⟩
  · exact ⟨rfl, rfl, rfl, rfl, rfl, rfl, rfl, decide_eq_true_iff, rfl, s.couplingEnabled_iff k⟩
  · intro frame named
    have hrun : exec (.coupleReport ch data) s = .next ((s.takeCoupleReport ch.toNat data).forward .t frame) :=
      congrArg Host.Outcome.next (State.frameEvent_taken .t 4 _ _ hs hlen)
    refine ⟨fun hnone => ?_, fun i r hi hfirst hr hpin => ?_⟩
    · rw [hrun, State.takeCoupleReport, State.couplingFor_eq_none.mpr hnone]
    · intro tension x with_ st
      have hfor : s.couplingFor ch.toNat (min 3 (byteAt data 0)) = some i := State.couplingFor_eq_some.mpr ⟨hi, hfirst⟩
      have htook : s.takeCoupleReport ch.toNat data = (with_ r.state).reportEngaged i (r.reported tension false) := by
        have hengaged : decide (byteAt data 3 ≠ 0) = false := by simp [hpin]
        rw [State.takeCoupleReport, hfor]
        dsimp only
        rw [hengaged, State.reportCoupling_some hr]
        rfl
      have hkeeps : (r.reported tension false).state = r.state := rfl
      have hclassify : classify ((with_ r.state).couplingEntry i) (r.reported tension false).state
          (r.reported tension false).tension = st := by
        have hhyst : (x.top : Int) - x.hyst < tension ↔ x.top < tension + x.hyst := by omega
        show classify x r.state tension = st
        simp only [classify, st, hhyst]
      rw [hrun, htook]
      refine ⟨fun h => ?_, fun h hslot => ?_, fun h h' hsame => ?_, fun h h' hchanged => ?_⟩
      · rw [State.reportEngaged_released (hkeeps.trans h), h]
      · have hload : (with_ .releasing).underLoad i = decide (x.slack ≤ tension) := by
          rw [State.underLoad_eq, put_get_same]
          rfl
        rw [State.reportEngaged_releasing (hkeeps.trans h), h]
        by_cases hlocked : x.hasLock .underLoad = true ∧ x.slack ≤ tension
        · rw [if_pos hlocked, State.checkLock_locked (s := with_ .releasing) hslot hlocked.1
            (hload.trans (decide_eq_true hlocked.2))]
        · rw [if_neg hlocked, State.checkLock_free fun k hk hlock => ?_]
          obtain rfl : i = k := Option.some.inj (hslot.symm.trans hk)
          exact hload.trans (decide_eq_false fun hslack => hlocked ⟨hlock, hslack⟩)
      · rw [State.reportEngaged_other (hkeeps.trans_ne h) (hkeeps.trans_ne h'),
          State.reclassified_same (hclassify.trans (hsame.trans hkeeps.symm)), hsame]
      · have hstored : (with_ r.state).withCoupling i { r.reported tension false with state := st } = with_ st :=
          State.withCoupling_withCoupling _ _
        rw [State.reportEngaged_other (hkeeps.trans_ne h) (hkeeps.trans_ne h'),
          State.reclassified_changed hclassify hchanged, hstored]

end Sys2Proof.Machine
end

section
/-! PROOF. The poll timer: the walk and the poll (R110 to R112), and the ageing step as one update of the records with the notices
in index order (R113; log entry 7). -/

namespace Sys2Proof.Machine

/-! ### The walk (R112) -/

/-- The first position of a range at which there is something to find. -/
theorem findSome?_range_eq_some {α : Type} {f : Nat → Option α} {n d : Nat} {x : α} (hd : d < n) (hx : f d = some x)
    (hbefore : ∀ k < d, f k = none) : (List.range n).findSome? f = some x := by
  obtain ⟨m, rfl⟩ : ∃ m, n = d + (m + 1) := ⟨n - d - 1, by omega⟩
  have hskip : (List.range d).findSome? f = none := by
    rw [List.findSome?_eq_none_iff]
    exact fun k hk => hbefore k (List.mem_range.mp hk)
  rw [List.range_add, List.findSome?_append, hskip, List.range_succ_eq_map, List.map_cons, List.findSome?_cons, Nat.add_zero, hx]
  rfl

section Walking

variable {s : State}

theorem State.polled_iff {i : Fin 48} : s.polled i = true ↔ ∃ r, s.coup.records[i] = some r ∧ r.state ≠ .released := by
  unfold State.polled
  cases s.coup.records[i] <;> simp

/-- What the walk finds at a number: the index, when it has a record to poll (R112). -/
def State.pollAt (s : State) (k : Nat) : Option (Fin 48) :=
  match index? 48 k with
  | some i => if s.polled i then some i else none
  | none => none

theorem State.walkFinds_eq (s : State) : s.walkFinds =
    (List.range (s.table .coupling).count).findSome? fun d =>
      s.pollAt ((s.coup.walk + d) % (s.table .coupling).count) := by
  rw [State.walkFinds, State.walkOrder, List.findSome?_map]
  rfl

theorem State.pollAt_eq_none {k : Nat} (h : ∀ i : Fin 48, i.val = k → ¬s.polled i = true) : s.pollAt k = none := by
  unfold State.pollAt
  split
  · rename_i i hi
    exact if_neg (h i (index?_eq_some.mp hi).symm)
  · rfl

theorem State.pollAt_eq_some {i : Fin 48} (h : s.polled i = true) : s.pollAt i.val = some i := by
  rw [State.pollAt, index?_eq_some.mpr rfl]
  exact if_pos h

end Walking

/-- Settles O27. -/
theorem pollTimerWalksTheTow : Obligations.PollTimerWalksTheTow := by
  intro s hs n start polled
  have hrun : exec .pollTimerExpiry s = .next (if s.ready .coupling then start.pollStep.ageStep.holdStep else start) := by
    show Host.Outcome.next (if s.restart.isSome then s else s.pollExpiry) = _
    rw [hs]
    rfl
  have hnone (k : Nat) (hk : ¬polled k) : start.pollAt k = none := by
    refine State.pollAt_eq_none fun i hi hp => hk ?_
    obtain ⟨r, hr, hstate⟩ := State.polled_iff.mp hp
    exact ⟨i, r, hi, hr, hstate⟩
  refine ⟨fun hready => ?_, fun hready hempty => ?_, fun i d hready hd hi hp hbefore => ?_⟩
  · rw [hrun, hready, if_neg (by simp)]
  · have hfinds : start.walkFinds = none := by
      rw [State.walkFinds_eq, List.findSome?_eq_none_iff]
      intro d hd
      exact hnone _ (hempty _ (Nat.mod_lt _ (Nat.zero_lt_of_lt (List.mem_range.mp hd))))
    rw [hrun, hready, if_pos rfl, State.pollStep, hfinds]
  · intro frame offered moved
    have hpolled : start.polled i = true := by
      obtain ⟨k, r, hk, hr, hstate⟩ := hp
      obtain rfl := Fin.ext hk
      exact State.polled_iff.mpr ⟨r, hr, hstate⟩
    have hfinds : start.walkFinds = some i := by
      rw [State.walkFinds_eq]
      refine findSome?_range_eq_some hd ?_ fun d' hd' => hnone _ (hbefore d' hd')
      exact hi ▸ State.pollAt_eq_some hpolled
    have hmoved : start.pollStep = moved := by
      rw [State.pollStep, hfinds]
      rfl
    rw [hrun, hready, if_pos rfl, hmoved]

/-! ### The ageing step (R113) -/

section Ageing

/-- A record as the ageing step leaves it (R113). -/
def CouplingRecord.staled (limit : Nat) (r : CouplingRecord) : CouplingRecord :=
  if r.goesStale limit then { r with state := .stale } else r

/-- A record goes STALE in a state: its notice, and the derate and the steering unit told (R113, R123). -/
def State.goStale (s : State) (i : Fin 48) : State :=
  State.afterChange (State.raise .couplingStale i.val
    { s with coup := { s.coup with records := put s.coup.records i (s.coup.records[i].map fun r => { r with state := .stale }) } })

/-- The records that pass to STALE (R113). -/
def State.staling (s : State) (i : Fin 48) : Bool := (s.coup.records[i]).any (CouplingRecord.goesStale s.params.staleLimit)

variable {s : State}

theorem State.staleStep_eq (s : State) (i : Fin 48) : s.staleStep i = if s.staling i then s.goStale i else s := by
  unfold State.staleStep State.staling
  cases hr : s.coup.records[i] with
  | none => rfl
  | some r =>
    rw [Option.any_some, State.goStale, hr]
    rfl

theorem State.goStale_records (s : State) (i : Fin 48) : (s.goStale i).coup.records =
    put s.coup.records i (s.coup.records[i].map fun r => { r with state := .stale }) := by
  rw [State.goStale, (State.afterChange_tow _).1]
  exact congrArg CouplingUnit.records (State.raise_coup .couplingStale i.val _)

theorem State.goStale_same (s : State) (i : Fin 48) : (s.goStale i).coup.records[i] =
    (s.coup.records[i]).map fun r => { r with state := .stale } := by
  rw [State.goStale_records, put_get_same]

theorem State.goStale_other {i k : Fin 48} (h : i ≠ k) : (s.goStale i).coup.records[k] = s.coup.records[k] := by
  rw [State.goStale_records, put_get_other _ h]

theorem State.staleStep_other {i k : Fin 48} (h : i ≠ k) : (s.staleStep i).coup.records[k] = s.coup.records[k] := by
  rw [State.staleStep_eq]
  split
  · exact State.goStale_other h
  · rfl

theorem State.staleStep_same (s : State) (i : Fin 48) : (s.staleStep i).coup.records[i] =
    (s.coup.records[i]).map (CouplingRecord.staled s.params.staleLimit) := by
  rw [State.staleStep_eq]
  unfold State.staling CouplingRecord.staled
  cases hr : s.coup.records[i] with
  | none =>
    rw [Option.any_none, if_neg Bool.false_ne_true]
    exact hr
  | some r =>
    rw [Option.any_some, Option.map_some]
    split
    · exact (State.goStale_same s i).trans (hr ▸ rfl)
    · exact hr

/-- Records taken in turn, each staling or not as it stood before: each goes STALE at its turn (R113; log entry 7). -/
theorem State.foldl_staleStep {l : List (Fin 48)} (hl : l.Nodup) (s : State) :
    l.foldl State.staleStep s = (l.filter s.staling).foldl State.goStale s ∧
    ∀ k, (l.foldl State.staleStep s).coup.records[k] =
      if k ∈ l then (s.coup.records[k]).map (CouplingRecord.staled s.params.staleLimit) else s.coup.records[k] := by
  induction l generalizing s with
  | nil =>
    rw [List.filter_nil, List.foldl_nil, List.foldl_nil]
    exact ⟨rfl, fun k => (if_neg List.not_mem_nil).symm⟩
  | cons i is ih =>
    obtain ⟨hi, his⟩ := List.nodup_cons.mp hl
    have hparams : (s.staleStep i).params = s.params := State.staleStep_params i s
    have hstaling : is.filter (s.staleStep i).staling = is.filter s.staling := by
      refine List.filter_congr fun k hk => ?_
      rw [State.staling, hparams, State.staleStep_other fun (h : i = k) => hi (h ▸ hk), State.staling]
    obtain ⟨hfold, hrecords⟩ := ih his (s.staleStep i)
    refine ⟨?_, fun k => ?_⟩
    · rw [List.foldl_cons, hfold, hstaling, State.staleStep_eq]
      by_cases hstale : s.staling i = true
      · rw [if_pos hstale, List.filter_cons_of_pos hstale, List.foldl_cons]
      · rw [if_neg hstale, List.filter_cons_of_neg hstale]
    · rw [List.foldl_cons, hrecords, hparams]
      by_cases hk : i = k
      · subst hk
        rw [if_neg hi, State.staleStep_same, if_pos List.mem_cons_self]
      · rw [State.staleStep_other hk]
        simp [Ne.symm hk]

end Ageing

/-- Settles O28. -/
theorem ageingMakesRecordsStale : Obligations.AgeingMakesRecordsStale := by
  intro s age stale aged gone turn
  have haged (r : CouplingRecord) : r.aged = { r with age := age r } := by
    obtain ⟨state, tension, pinOpen, years⟩ := r
    cases state <;> rfl
  have hstart : s.raiseAges = { s with coup := { s.coup with records := aged } } := by
    rw [State.raiseAges, funext haged]
  have hstale (r : CouplingRecord) : r.aged.goesStale s.params.staleLimit = decide (stale r) := by
    rw [haged, CouplingRecord.goesStale, ← Bool.decide_and]
  have hgone : (List.finRange 48).filter s.raiseAges.staling = gone := by
    refine List.filter_congr fun i _ => ?_
    rw [State.staling, State.raiseAges, remap_get]
    cases s.coup.records[i] with
    | none => rfl
    | some r => exact hstale r
  obtain ⟨hfold, hrecords⟩ := State.foldl_staleStep (List.nodup_finRange 48) s.raiseAges
  refine ⟨?_, vector_ext fun i => ?_⟩
  · rw [State.ageStep, hfold, hgone, hstart]
    rfl
  · rw [State.ageStep, hrecords, if_pos (List.mem_finRange i), State.raiseAges, remap_get, remap_get, Option.map_map]
    refine congrArg (Option.map · _) (funext fun r => ?_)
    rw [Function.comp, CouplingRecord.staled, hstale, haged]
    by_cases h : stale r
    · simp [h]
    · simp [h]

end Sys2Proof.Machine
end

section
/-! PROOF. A COUPLE-REPORT with pin DISENGAGED: the end of a release, or a parting (R116, R138; log entry 4). -/

namespace Sys2Proof.Machine

section Disengaged

variable {s : State} {i : Fin 48} {r : CouplingRecord}

/-- An open pin by the state of its record: a release completed, a state kept, or a parting (R116, R138). -/
theorem State.reportOpen_eq : s.reportOpen i r =
    if r.state = .releasing then s.completeRelease i r
    else if r.state = .released ∨ r.state = .parted then s
    else (s.parted i r).afterChange := by
  rw [State.reportOpen]
  cases r.state <;> rfl

/-- A report that matches a record and tells an open pin is stored before the record's state is looked at (R115, R116). -/
theorem State.takeCoupleReport_open {ch : Nat} {data : List Byte}
    (hfor : s.couplingFor ch (min 3 (byteAt data 0)) = some i) (hr : s.coup.records[i] = some r)
    (hpin : byteAt data 3 ≠ 0) : s.takeCoupleReport ch data =
      (s.withCoupling i (r.reported (min 4000 (u16At data 1)) true)).reportOpen i
        (r.reported (min 4000 (u16At data 1)) true) := by
  rw [State.takeCoupleReport, hfor]
  dsimp only
  rw [decide_eq_true hpin, State.reportCoupling_some hr, if_pos rfl]

end Disengaged

/-- Settles O23. -/
theorem openPinCompletesOrParts : Obligations.OpenPinCompletesOrParts := by
  intro ch data i r s hs hlen named hi hfirst hr hpin with_ done
  have hrun : exec (.coupleReport ch data) s =
      .next ((s.takeCoupleReport ch.toNat data).forward .t (frameOf 9 ch.toNat data)) :=
    congrArg Host.Outcome.next (State.frameEvent_taken .t 4 _ _ hs hlen)
  rw [hrun, State.takeCoupleReport_open (State.couplingFor_eq_some.mpr ⟨hi, hfirst⟩) hr hpin]
  refine congrArg (fun t => Host.Outcome.next (State.forward .t (frameOf 9 ch.toNat data) t)) ?_
  have hstored (st : CouplingState) : (s.withCoupling i (r.reported (min 4000 (u16At data 1)) true)).withCoupling i
      { r.reported (min 4000 (u16At data 1)) true with state := st } = with_ st :=
    State.withCoupling_withCoupling _ _
  rw [State.reportOpen_eq]
  refine if_congr Iff.rfl ?_ (if_congr Iff.rfl rfl ?_)
  · rw [State.completeRelease, hstored]
    rfl
  · rw [State.parted, hstored]

end Sys2Proof.Machine
end

section
/-! PROOF. COUPLE-RELEASE by its six rows, over the interlock conditions in their order, and what its acceptance begins
(R134 to R136). -/

namespace Sys2Proof.Machine

/-! ### The interlock conditions (R134) -/

section Locking

variable {s : State} {i : Fin 48} {r : CouplingRecord}

theorem State.enginesEngaged_iff_gears (s : State) : s.enginesEngaged = true ↔ ∃ (e : Fin 4) (c : EngineChannel),
    s.prop.channels[e] = some c ∧ (c.gear = .ahead ∨ c.gear = .astern ∨ c.gear = .slowing) := by
  simp only [← Gear.inGear_iff]
  exact s.enginesEngaged_iff

theorem State.underLoad_iff (hr : s.coup.records[i] = some r) :
    s.underLoad i = true ↔ (s.couplingEntry i).slack ≤ r.tension := by
  rw [State.underLoad_eq, hr]
  exact decide_eq_true_iff

/-! ### The first lock (R135) -/

/-- The interlock order is the order of the codes (R134, R202). -/
theorem interlockOrder_getElem? (c : Interlock) : interlockOrder[interlockCode c]? = some c := by
  cases c <;> rfl

theorem interlockCode_of_getElem? {k : Nat} {c : Interlock} (h : interlockOrder[k]? = some c) : interlockCode c = k := by
  obtain ⟨hk, rfl⟩ := List.getElem?_eq_some_iff.mp h
  exact (by decide : ∀ k : Fin 4, interlockCode (interlockOrder[k]'k.isLt) = k.val) ⟨k, hk⟩

/-- The first lock is one that holds with none of a lower code (R135). -/
theorem State.firstLock_eq_some {c : Interlock} (hlock : (s.couplingEntry i).hasLock c = true)
    (hholds : s.lockHolds i c = true)
    (hfirst : ∀ d, interlockCode d < interlockCode c →
      ¬((s.couplingEntry i).hasLock d = true ∧ s.lockHolds i d = true)) : s.firstLock i = some c := by
  obtain ⟨hc, hat⟩ := List.getElem?_eq_some_iff.mp (interlockOrder_getElem? c)
  refine List.find?_eq_some_iff_getElem.mpr ⟨by rw [hlock, hholds]; rfl, interlockCode c, hc, hat, fun k hk => ?_⟩
  have hcode := interlockCode_of_getElem? (List.getElem?_eq_getElem (hk.trans hc))
  rw [Bool.not_eq_true', ← Bool.not_eq_true, Bool.and_eq_true]
  exact hfirst _ (hcode.trans_lt hk)

end Locking

/-! ### The six rows (R135) -/

/-- The last two rows of COUPLE-RELEASE: refused by the first lock, or accepted (R135). -/
def State.releaseUnlessLocked (i : Fin 48) (r : CouplingRecord) (s : State) : Answer :=
  match s.firstLock i with
  | some c => s.says .interlock [BitVec.ofNat 8 (interlockCode c)]
  | none => (s.acceptRelease i r).says .ok []

theorem State.releaseUnlessLocked_locked {s : State} {i : Fin 48} {c : Interlock} (h : s.firstLock i = some c)
    (r : CouplingRecord) : s.releaseUnlessLocked i r = s.says .interlock [BitVec.ofNat 8 (interlockCode c)] := by
  rw [State.releaseUnlessLocked, h]

theorem State.releaseUnlessLocked_free {s : State} {i : Fin 48} (h : s.firstLock i = none) (r : CouplingRecord) :
    s.releaseUnlessLocked i r = (s.acceptRelease i r).says .ok [] := by
  rw [State.releaseUnlessLocked, h]

section Requesting

variable {s : State} {args : List Byte} (hlen : 1 ≤ args.length)

include hlen

theorem State.requestRelease_none (h : ∀ i : Fin 48, i.val = byteAt args 0 → s.coup.records[i] = none) :
    s.requestRelease args = s.says .badIndex [] := by
  rw [State.requestRelease, State.needs_met _ _ hlen, State.couplingNamed_none h]

variable {i : Fin 48} {r : CouplingRecord} (hi : i.val = byteAt args 0) (hr : s.coup.records[i] = some r)

include hi hr

theorem State.requestRelease_unpowered (hpower : (s.couplingEntry i).powered = false) :
    s.requestRelease args = s.says .notPowered [] := by
  rw [State.requestRelease, State.needs_met _ _ hlen, ← hi, State.couplingNamed_some hr]
  exact if_pos hpower

variable (hpower : (s.couplingEntry i).powered = true)

include hpower

theorem State.requestRelease_busy {k : Fin 48} (hslot : s.coup.slot = some k) :
    s.requestRelease args = s.says .busy [BitVec.ofNat 8 k.val] := by
  rw [State.requestRelease, State.needs_met _ _ hlen, ← hi, State.couplingNamed_some hr]
  dsimp only
  rw [hpower, if_neg (by decide), hslot]

/-- A powered coupling with the slot EMPTY is ruled on by its state, then by its interlocks (R135). -/
theorem State.requestRelease_slotEmpty (hslot : s.coup.slot = none) : s.requestRelease args =
    if r.state ≠ .made ∧ r.state ≠ .slack then s.says .badState [couplingStateCode r.state]
    else s.releaseUnlessLocked i r := by
  rw [State.requestRelease, State.needs_met _ _ hlen, ← hi, State.couplingNamed_some hr]
  dsimp only
  rw [hpower, if_neg (by decide), hslot]
  rfl

end Requesting

/-- Settles O45. -/
theorem releaseIsRuledBySixRows : Obligations.ReleaseIsRuledBySixRows := by
  intro tag args s hs hlen k out
  have answered {t : State} {st : Status} {fields : List Byte} (hb : s.requestRelease args = t.says st fields)
      (hc : t.channel = s.channel) : exec (.coupleRelease tag args) s = .next (t.replied tag st fields) :=
    congrArg Host.Outcome.next (State.managed_says tag hs hb hc)
  refine ⟨fun hnone => answered (State.requestRelease_none hlen hnone) rfl, ?_⟩
  intro i r hi hr x holds code state locked records open_ sent timed
  have hholds (c : Interlock) : holds c ↔ s.lockHolds i c = true := by
    cases c with
    | enginesEngaged => exact s.enginesEngaged_iff_gears.symm
    | helmOffCentre => exact decide_eq_true_iff.symm
    | bowActive => exact s.bowActive_iff.symm
    | underLoad => exact (State.underLoad_iff hr).symm
  have hlocked (c : Interlock) : locked c ↔ (s.couplingEntry i).hasLock c = true ∧ s.lockHolds i c = true :=
    and_congr Iff.rfl (hholds c)
  have hready (h : r.state = .made ∨ r.state = .slack) : ¬(r.state ≠ .made ∧ r.state ≠ .slack) :=
    fun ⟨hmade, hslack⟩ => h.elim hmade hslack
  refine ⟨fun hpower => ?_, fun h hpower hslot => ?_, fun hpower hslot hmade hslack => ?_,
    fun c hpower hslot hstate hlock hfirst => ?_, fun hpower hslot hstate hfree => ?_⟩
  · exact answered (State.requestRelease_unpowered hlen hi hr hpower) rfl
  · exact answered (State.requestRelease_busy hlen hi hr hpower hslot) rfl
  · have hrow := State.requestRelease_slotEmpty hlen hi hr hpower hslot
    exact answered (hrow.trans (if_pos ⟨hmade, hslack⟩)) rfl
  · obtain ⟨hhas, hstands⟩ := (hlocked c).mp hlock
    have hfirstLock : s.firstLock i = some c :=
      State.firstLock_eq_some hhas hstands fun d hd => mt (hlocked d).mpr (hfirst d hd)
    have hrow := (State.requestRelease_slotEmpty hlen hi hr hpower hslot).trans (if_neg (hready hstate))
    exact answered (hrow.trans (State.releaseUnlessLocked_locked hfirstLock r)) rfl
  · have hnone : s.firstLock i = none := State.firstLock_eq_none.mpr fun c hhas =>
      Bool.eq_false_iff.mpr fun hstands => hfree c ((hlocked c).mpr ⟨hhas, hstands⟩)
    have hrow := (State.requestRelease_slotEmpty hlen hi hr hpower hslot).trans (if_neg (hready hstate))
    exact answered (hrow.trans (State.releaseUnlessLocked_free hnone r)) (State.acceptRelease_channel i r s)

end Sys2Proof.Machine
end

section
/-! PROOF. SET-PARAM and GET-PARAM over the parameters in the order of their codes (R139, R194, R203; log entry 15). -/

namespace Sys2Proof.Machine

/-! ### The codes (R203) -/

/-- The code of a parameter (R203). -/
def Param.code (p : Param) : Nat := p.ctorIdx

theorem paramOfCode_code (p : Param) : paramOfCode p.code = some p := by
  cases p <;> rfl

theorem exists_param_of_code {k : Nat} (h : k ≤ 26) : ∃ p : Param, p.code = k := by
  have hall : ∀ k : Fin 27, (paramOfCode k.val).map Param.code = some k.val := by decide
  obtain ⟨p, -, hp⟩ := Option.map_eq_some_iff.mp (hall ⟨k, by omega⟩)
  exact ⟨p, hp⟩

theorem paramOfCode_none {k : Nat} (h : 27 ≤ k) : paramOfCode k = none := by
  obtain ⟨n, rfl⟩ := Nat.exists_eq_add_of_le' h
  rfl

theorem Param.eq_of_code {p q : Param} (h : p.code = q.code) : p = q :=
  Option.some.inj ((paramOfCode_code p).symm.trans ((congrArg paramOfCode h).trans (paramOfCode_code q)))

/-! ### The values in code order (R194, R203) -/

/-- The values of a parameter set in the order of the codes (R203). -/
def Params.values (x : Params) : List Nat :=
  [x.propInterval, x.steerInterval, x.leverTimeout, x.leverHold, x.helmTimeout, x.reversalDwell, x.pollInterval,
    x.staleLimit, x.derateHold, x.deratePct1, x.deratePct2, x.deratePct3, x.reservePct, x.releaseTimeout, x.matchWindow,
    x.centreWindow, x.followWindow, x.followCount, x.runFlowLimit, x.syncStep, x.syncLimit, x.patienceRoutine,
    x.patienceBulk, defaultCode x.defaultW, defaultCode x.defaultM, defaultCode x.defaultT, x.noticeEnable.toNat]

theorem Params.values_code (x : Params) (p : Param) : x.values[p.code]? = some (x.value p) := by
  cases p <;> rfl

/-- What a parameter holds once `v` is stored in it: a port default and NOTICE_ENABLE keep only the bits they have (R194; log
entry 15). -/
def Param.held (p : Param) (v : Nat) : Nat :=
  if p.range.isSome then v else if p = .noticeEnable then v % 2 ^ 20 else defaultCode (defaultOfCode v)

/-- Storing changes the one parameter named (R194). -/
theorem Params.store_values (x : Params) (p : Param) (v : Nat) : (x.store p v).values = x.values.set p.code (p.held v) := by
  cases p <;> rfl

/-! ### Rounding and clamping (R194) -/

theorem Param.rounded_eq (p : Param) (v : Nat) :
    p.rounded v = if p.code ≤ 6 ∨ p.code = 13 then v / 10 * 10 else v := by
  cases p <;> rfl

theorem defaultCode_defaultOfCode (v : Nat) : defaultCode (defaultOfCode v) = v % 8 + 256 * (v / 256 % 2) := by
  have hegress : (defaultOfCode v).egress.toNat = v % 8 := BitVec.toNat_ofNat v 3
  rw [defaultCode, hegress, defaultOfCode]
  rcases Nat.mod_two_eq_zero_or_one (v / 256) with h | h <;> simp [h]

/-- An admitted value fits its parameter: storing it loses no bit of it (R194; log entry 15). -/
theorem Param.held_admitted (p : Param) (v : Nat) : p.held (p.admitted v) = p.admitted v := by
  rw [Param.held, Param.admitted]
  cases p.range with
  | some b => rfl
  | none =>
    by_cases h : p = .noticeEnable
    · simp [h]
    · simp only [h, if_false, Option.isSome_none, Bool.false_eq_true, defaultCode_defaultOfCode]
      omega

/-- The ranges of the parameters that are numbers, in the order of the codes (R194). -/
def numberRanges : List (Nat × Nat) :=
  [(20, 200), (20, 200), (100, 5000), (0, 30000), (100, 5000), (0, 15000), (10, 500), (8, 4095), (1, 65535), (10, 100),
    (10, 100), (10, 100), (10, 100), (1000, 60000), (0, 256), (0, 100), (5, 200), (1, 255), (0, 65535), (1, 10), (0, 100),
    (1, 63), (1, 63)]

theorem Param.admitted_eq (p : Param) (v : Nat) : p.admitted v =
    if p.code ≤ 22 then clampNat (numberRanges.getD p.code (0, 0)).1 (numberRanges.getD p.code (0, 0)).2 v
    else if p.code ≤ 25 then v % 8 + 256 * (v / 256 % 2) else v % 2 ^ 20 := by
  cases p with
  | defaultW | defaultM | defaultT => exact defaultCode_defaultOfCode v
  | _ => rfl

/-! ### The two commands (R194) -/

section Commands

variable {s : State} {args : List Byte}

theorem State.storeParam_channel (p : Param) (v : Nat) : (s.storeParam p v).channel = s.channel := by
  unfold State.storeParam
  dsimp only
  split
  · exact State.checkLock_channel _ _
  · rfl

theorem State.setParam_none (hlen : 5 ≤ args.length) (h : 27 ≤ byteAt args 0) :
    s.setParam args = s.says .badIndex [] := by
  rw [State.setParam, State.needs_met _ _ hlen, paramOfCode_none h]

theorem State.getParam_none (hlen : 1 ≤ args.length) (h : 27 ≤ byteAt args 0) :
    s.getParam args = s.says .badIndex [] := by
  rw [State.getParam, State.needs_met _ _ hlen, paramOfCode_none h]

variable {p : Param} (hp : p.code = byteAt args 0)

include hp

theorem State.setParam_named (hlen : 5 ≤ args.length) : s.setParam args =
    (s.storeParam p (p.admitted (p.rounded (u32At args 1)))).says
      (if p.admitted (p.rounded (u32At args 1)) = p.rounded (u32At args 1) then .ok else .clamped)
      (fieldOf 4 (p.admitted (p.rounded (u32At args 1)))) := by
  rw [State.setParam, State.needs_met _ _ hlen, ← hp, paramOfCode_code]

theorem State.getParam_named (hlen : 1 ≤ args.length) : s.getParam args = s.says .ok (fieldOf 4 (s.params.value p)) := by
  rw [State.getParam, State.needs_met _ _ hlen, ← hp, paramOfCode_code]

end Commands

/-- Settles O41. -/
theorem parametersAreRoundedAndClamped : Obligations.ParametersAreRoundedAndClamped := by
  intro tag args s hs k port read ranges given v stored
  have hread (x : Params) (j : Nat) : read x j = x.values[j]? := rfl
  have answered {t : State} {body : State → Answer} {st : Status} {fields : List Byte} (hb : body s = t.says st fields)
      (hc : t.channel = s.channel) : Host.Outcome.next (s.managed tag body) =
        (.next (t.replied tag st fields) : Host.Outcome State Fault Refusal) :=
    congrArg _ (State.managed_says tag hs hb hc)
  refine ⟨fun hk => ⟨fun hlen => ?_, fun hlen => ?_⟩, fun value hvalue hlen => ?_, fun hk hlen => ?_⟩
  · exact answered (State.setParam_none hlen hk) rfl
  · exact answered (State.getParam_none hlen hk) rfl
  · have hk : k < 27 := (List.getElem?_eq_some_iff.mp hvalue).1
    obtain ⟨p, hp⟩ := exists_param_of_code (Nat.le_of_lt_succ hk)
    rw [hread, ← hp, Params.values_code] at hvalue
    exact answered (Option.some.inj hvalue ▸ State.getParam_named hp hlen) rfl
  · obtain ⟨p, hp⟩ := exists_param_of_code hk
    have hv : p.rounded given = v := by rw [Param.rounded_eq, hp]
    have hstored : p.admitted v = stored := by
      rw [Param.admitted_eq, hp]
      rfl
    have hset := State.setParam_named (s := s) hp hlen
    rw [hv, hstored] at hset
    refine ⟨s.params.store p stored, fun j hj => ?_, ?_⟩
    · have hin : k < s.params.values.length := Nat.lt_succ_of_le hk
      rw [hread, hread, Params.store_values, ← hstored, Param.held_admitted, hp, List.getElem?_set, if_pos hin]
      simp only [eq_comm]
    · have hcentre : p = .centreWindow ↔ k = 15 :=
        ⟨fun h => by rw [← hp, h]; rfl, fun h => Param.eq_of_code (hp.trans h)⟩
      intro t
      have htold : s.storeParam p stored =
          if k = 15 ∧ stored ≠ s.params.centreWindow then t.checkLock .helmOffCentre else t := by
        simp only [State.storeParam, hcentre]
        rfl
      rw [← htold]
      exact answered hset (State.storeParam_channel p stored)

end Sys2Proof.Machine
end

section
/-! PROOF. FLOW taken by a meter: the baseline, the glitch, and an accounted delta converted and booked (R147 to R160;
log entry 4). -/

namespace Sys2Proof.Machine

/-! ### The entry in use, and the meter a FLOW belongs to (R147 to R149) -/

/-- A meter is in service by the words of its entry in a READY table (R147). -/
theorem State.meterInService_iff (s : State) (i : Fin 8) :
    s.meterInService i = true ↔ (s.table .meter).state = .ready ∧ i.val < (s.table .meter).count ∧
      s.entryWord .meter i.val 0 ≠ 0 := by
  simp [State.meterInService, State.reaches_iff, and_assoc]

section Metering

variable {s : State} {i : Fin 8} {count : Nat} {temp : Int}

/-- A meter in service with a channel. -/
def State.meterAt (s : State) (ch : Nat) (k : Fin 8) : Prop :=
  s.meterInService k = true ∧ (s.meterEntry k).channel = ch

theorem State.meterFor_eq_some {ch : Nat} :
    s.meterFor ch = some i ↔ s.meterAt ch i ∧ ∀ k < i, ¬s.meterAt ch k := by
  rw [State.meterFor, ← Fin.find?_eq_find?_finRange, Fin.find?_eq_some_iff]
  simp [State.meterAt]

theorem State.meterFor_eq_none {ch : Nat} : s.meterFor ch = none ↔ ∀ k, ¬s.meterAt ch k := by
  simp [State.meterFor, State.meterAt]

/-- A FLOW long enough is offered to the fuel unit, then to the route table (R2, R7, R149). -/
theorem exec_flow_taken (ch : BitVec 6) {data : List Byte} (hs : s.hears .m) (hlen : 4 ≤ data.length) :
    exec (.flow ch data) s = .next ((s.takeFlow ch.toNat data).forward .m (frameOf 11 ch.toNat data)) :=
  congrArg Host.Outcome.next (State.frameEvent_taken .m 4 _ _ hs hlen)

theorem State.takeFlow_unmatched {ch : Nat} (data : List Byte) (h : ∀ k, ¬s.meterAt ch k) : s.takeFlow ch data = s := by
  rw [State.takeFlow, State.meterFor_eq_none.mpr h]

theorem State.takeFlow_matched {ch : Nat} (data : List Byte) (hi : s.meterAt ch i) (hfirst : ∀ k < i, ¬s.meterAt ch k) :
    s.takeFlow ch data = s.meterFlow i (u16At data 0) (clampInt (-200) 1000 (s16At data 2)) := by
  rw [State.takeFlow, State.meterFor_eq_some.mpr ⟨hi, hfirst⟩]

/-! ### A FLOW by what its meter record holds (R150 to R152) -/

/-- The first FLOW is the baseline of the next (R150). -/
theorem State.meterFlow_baseline (h : s.fuel.meters[i].baseline = none) : s.meterFlow i count temp =
    s.withMeter i { s.fuel.meters[i] with baseline := some count, temp := temp } := by
  rw [State.meterFlow, h]

variable {b : Nat} (hb : s.fuel.meters[i].baseline = some b)

include hb

/-- A delta beyond the greatest is a glitch (R152). -/
theorem State.meterFlow_glitch (hdelta : (s.meterEntry i).maxDelta < flowDelta count b) : s.meterFlow i count temp =
    (s.withMeter i { s.fuel.meters[i] with
      baseline := some count, temp := temp,
      glitches := satAdd Config.counterMax s.fuel.meters[i].glitches 1 }).raise .meterGlitch i.val := by
  rw [State.meterFlow, hb]
  exact if_pos hdelta

/-- A delta within the greatest is converted and booked (R151, R153 to R160). -/
theorem State.meterFlow_accounted {r : MeterRecord} (hdelta : flowDelta count b ≤ (s.meterEntry i).maxDelta)
    (hr : MeterRecord.converted (s.meterEntry i) (flowDelta count b)
      { s.fuel.meters[i] with baseline := some count, temp := temp } = r) :
    s.meterFlow i count temp = (((s.withMeter i r).bookEngine (s.meterEntry i) r.amount).bookStore
      (s.meterEntry i) r.amount).checkRun (s.meterEntry i) r.amount := by
  subst hr
  rw [State.meterFlow, hb]
  exact if_neg (Nat.not_lt.mpr hdelta)

end Metering

/-! ### The bookings of an accounted delta (R157, R158, R160) -/

section Booking

variable (s : State) {x : MeterEntry} (std : Nat)

/-- The store booking of a meter with a tank goes to it when the READY TANK table reaches it (R157). -/
theorem State.bookStore_tank {t : Fin 8} (ht : x.tank = some t) : s.bookStore x std =
    if s.reaches .tank t.val = true then (if x.isReturn then s.creditTank t std else s.debitTank t std)
    else s.bookUnassigned x std := by
  rw [State.bookStore, State.storeTank, ht]
  by_cases hreach : s.reaches .tank t.val = true
  · simp [hreach]
  · simp [hreach]

theorem State.bookStore_tankless (ht : x.tank = none) : s.bookStore x std = s.bookUnassigned x std := by
  rw [State.bookStore, State.storeTank, ht]

theorem volumeMax_eq : (Config.volumeMax : Int) = 2 ^ 47 - 1 := by decide

/-- The unassigned accumulator rises by a RETURN volume and falls by a SUPPLY volume, within its bounds (R158). -/
theorem State.bookUnassigned_eq : s.bookUnassigned x std = { s with fuel := { s.fuel with
    unassigned := max (-(2 ^ 47 - 1)) (min (2 ^ 47 - 1)
      (s.fuel.unassigned + if x.isReturn then (std : Int) else -std)) } } := by
  rw [State.bookUnassigned, volumeMax_eq]
  cases x.isReturn <;> rfl

theorem State.rpmHanded_eq (e : Fin 4) : s.rpmHanded e = ((s.prop.channels[e]).map fun c => c.repRpm).getD 0 := by
  rw [State.rpmHanded]
  cases s.prop.channels[e] <;> rfl

/-- The flow check reads what no store booking changes (R160). -/
theorem State.bookStore_checkRun (x : MeterEntry) : (s.bookStore x std).checkRun x std =
    if x.isReturn = false ∧ s.params.runFlowLimit ≤ std ∧
        ((s.prop.channels[x.engine]).map fun c => c.repRpm).getD 0 = 0 then
      (s.bookStore x std).raise .flowWithoutRun x.engine.val
    else s.bookStore x std := by
  rw [State.checkRun, State.rpmHanded_eq, State.bookStore_params, State.bookStore_prop]

end Booking

/-- Settles O30. -/
theorem flowIsMeteredAndBooked : Obligations.FlowIsMeteredAndBooked := by
  intro ch data i b s hs hlen named w x r delta
  refine ⟨⟨rfl, rfl, decide_eq_true_iff, rfl, fun t => index?_eq_some, rfl, rfl, s.meterInService_iff i⟩,
    fun hi hfirst hb hdelta => ?_⟩
  intro temp counts factor fine std meters e engines metered booked running
  refine ⟨?_, State.bookUnassigned_eq metered std⟩
  have hflow : s.takeFlow ch.toNat data = (metered.bookStore x std).checkRun x std :=
    (State.takeFlow_matched data hi hfirst).trans (State.meterFlow_accounted hb hdelta rfl)
  have hstore : metered.bookStore x std = booked := by
    have hreach (t : Fin 8) : metered.reaches .tank t.val = true ↔
        s.ready .tank = true ∧ t.val < (s.table .tank).count := by
      rw [← decide_eq_true_iff (p := _ < _)]
      exact Bool.and_eq_true_iff
    cases htank : x.tank with
    | none =>
      simp only [booked, htank]
      exact State.bookStore_tankless metered std htank
    | some t =>
      simp only [booked, htank, ← hreach]
      exact State.bookStore_tank metered std htank
  rw [exec_flow_taken ch hs hlen, hflow, State.bookStore_checkRun, hstore]

/-- Settles O31. -/
theorem flowBaselineAndGlitch : Obligations.FlowBaselineAndGlitch := by
  intro ch data s hs hlen frame named
  rw [exec_flow_taken ch hs hlen]
  refine ⟨fun hnone => ?_, fun i hi hfirst => ?_⟩
  · rw [State.takeFlow_unmatched data hnone]
  · intro r taken
    rw [State.takeFlow_matched data hi hfirst]
    refine ⟨fun hb => ?_, fun b hb hdelta => ?_⟩
    · rw [State.meterFlow_baseline hb]
      rfl
    · rw [State.meterFlow_glitch hb hdelta]
      rfl

end Sys2Proof.Machine
end

section
/-! PROOF. Debits and credits of a tank record, and the reserve evaluated after them, as exact next states (R167 to
R170). -/

namespace Sys2Proof.Machine

/-! ### The record after a debit and a credit (R168, R169) -/

/-- A debit within the balance leaves the shortfall (R168). -/
theorem TankRecord.debit_within {d : Nat} {r : TankRecord} (h : d ≤ r.balance) :
    r.debit d = { r with debits := r.debits + d, balance := r.balance - d } := by
  simp [TankRecord.debit, Nat.sub_eq_zero_of_le h]

/-- A debit beyond the balance empties the tank, and the rest is shortfall (R168). -/
theorem TankRecord.debit_beyond {d : Nat} {r : TankRecord} (h : r.balance < d) :
    r.debit d = { r with debits := r.debits + d, balance := 0, shortfall := r.shortfall + (d - r.balance) } := by
  simp [TankRecord.debit, Nat.sub_eq_zero_of_le h.le]

/-- A credit within the capacity leaves the excess (R169). -/
theorem TankRecord.credit_within {top c : Nat} {r : TankRecord} (h : r.balance + c ≤ top) :
    r.credit top c = { r with credits := r.credits + c, balance := r.balance + c } := by
  simp [TankRecord.credit, Nat.min_eq_right h, Nat.sub_eq_zero_of_le h]

/-- A credit beyond the capacity fills the tank, and the rest is excess (R169). -/
theorem TankRecord.credit_beyond {top c : Nat} {r : TankRecord} (h : top < r.balance + c) :
    r.credit top c =
      { r with credits := r.credits + c, balance := top, excess := r.excess + (r.balance + c - top) } := by
  simp [TankRecord.credit, Nat.min_eq_left h.le]

/-! ### The bookings of a tank that has a record (R168 to R170) -/

section Booking

variable {s : State} {t : Fin 8} {r : TankRecord}

/-- A record is stored with its reserve state, and TANK_RESERVE raised when that becomes true (R170). -/
theorem State.evaluated_eq (t : Fin 8) (r : TankRecord) (s : State) : s.evaluated t r =
    let held := s.withTank t { r with reserve := s.inReserve t r.balance }
    if s.inReserve t r.balance = true ∧ r.reserve = false then held.raise .tankReserve t.val else held := by
  simp only [State.evaluated, Bool.and_eq_true, Bool.not_eq_true']

theorem State.debitTank_zero (t : Fin 8) (s : State) : s.debitTank t 0 = s := by
  unfold State.debitTank
  split <;> rfl

theorem State.creditTank_zero (t : Fin 8) (s : State) : s.creditTank t 0 = s := by
  unfold State.creditTank
  split <;> rfl

variable (hr : s.fuel.tanks[t] = some r)

include hr

/-- A debit within the balance is evaluated at once (R168). -/
theorem State.debitTank_within {d : Nat} (hpos : 1 ≤ d) (hd : d ≤ r.balance) :
    s.debitTank t d = s.evaluated t (r.debit d) := by
  rw [State.debitTank, hr]
  exact (if_neg (by omega)).trans (if_neg (by omega))

/-- A debit beyond the balance raises TANK_SHORTFALL first; the evaluation stores the record again (R168). -/
theorem State.debitTank_beyond {d : Nat} (hd : r.balance < d) :
    s.debitTank t d = (s.raise .tankShortfall t.val).evaluated t (r.debit d) := by
  have htwice (x y : TankRecord) : ((s.withTank t x).raise .tankShortfall t.val).withTank t y =
      (s.raise .tankShortfall t.val).withTank t y := by
    simp only [State.withTank, State.raise, put_put]
    rfl
  have heval (x y : TankRecord) : ((s.withTank t x).raise .tankShortfall t.val).evaluated t y =
      (s.raise .tankShortfall t.val).evaluated t y := by
    rw [State.evaluated_eq, htwice, State.evaluated_eq]
    rfl
  rw [← heval (r.debit d), State.debitTank, hr]
  exact (if_neg (by omega)).trans (if_pos hd)

/-- A credit is evaluated at once (R169). -/
theorem State.creditTank_evaluated {c : Nat} (hpos : 1 ≤ c) :
    s.creditTank t c = s.evaluated t (r.credit (s.tankCapacity t) c) := by
  rw [State.creditTank, hr]
  exact if_neg (by omega)

end Booking

/-- Settles O29: each booking is the evaluation of its record, after TANK_SHORTFALL where the balance does not reach. -/
theorem tankBookingsLoseNoFuel : Obligations.TankBookingsLoseNoFuel := by
  intro t d r s hr w x top low held told
  refine ⟨⟨rfl, rfl, rfl, rfl⟩, s.debitTank_zero t, fun hpos hd => ?_, fun hd => ?_, s.creditTank_zero t,
    fun hpos hd => ?_, fun hpos hd => ?_⟩
  · rw [State.debitTank_within hr hpos hd, TankRecord.debit_within hd, State.evaluated_eq]
    rfl
  · rw [State.debitTank_beyond hr hd, TankRecord.debit_beyond hd, State.evaluated_eq]
    rfl
  · rw [State.creditTank_evaluated hr hpos, TankRecord.credit_within (top := s.tankCapacity t) hd, State.evaluated_eq]
    rfl
  · rw [State.creditTank_evaluated hr hpos, TankRecord.credit_beyond (top := s.tankCapacity t) hd, State.evaluated_eq]
    rfl

end Sys2Proof.Machine
end

section
/-! PROOF. Every step keeps each tank's identity, its bounds and its reserve state (EveryStepKeepsTanks): what the fuel unit
books, what the TANK table brings and ends, and what touches neither (R170, R171, R175). -/

namespace Sys2Proof.Machine

/-! ### What is asked of a tank record (R170, R171) -/

/-- A tank record measured by its entry: fuel is accounted for, the balance fits, and the reserve state is evaluated. -/
structure TankRecord.Accounted (x : TankEntry) (r : TankRecord) : Prop where
  identity : r.balance + r.debits + r.excess = x.loaded * 1000 + r.credits + r.shortfall
  fits : r.balance ≤ x.capacity * 1000
  evaluated : r.reserve = decide (r.balance < x.reserve * 1000)

/-- Every tank record is accounted for by its entry. -/
def State.TanksAccounted (s : State) : Prop :=
  ∀ (t : Fin 8) (r : TankRecord), s.fuel.tanks[t] = some r → r.Accounted (s.tankEntry t)

theorem State.tankSound_iff (s : State) (t : Fin 8) :
    s.tankSound t = true ↔ ∀ r, s.fuel.tanks[t] = some r → r.Accounted (s.tankEntry t) := by
  unfold State.tankSound
  cases s.fuel.tanks[t] with
  | none => simp
  | some r =>
    simp only [Bool.and_eq_true, decide_eq_true_eq, beq_iff_eq, Option.some.injEq, forall_eq']
    exact ⟨fun ⟨⟨hidentity, hfits⟩, hreserve⟩ => ⟨hidentity, hfits, hreserve⟩,
      fun ⟨hidentity, hfits, hreserve⟩ => ⟨⟨hidentity, hfits⟩, hreserve⟩⟩

theorem State.tanksSound_iff (s : State) : s.tanksSound = true ↔ s.TanksAccounted := by
  simp only [State.tanksSound, List.all_eq_true, List.mem_finRange, true_imp_iff, State.tankSound_iff]
  rfl

/-- A debit moves what it takes between balance, debits and shortfall (R168). -/
theorem TankRecord.Accounted.debit_identity {x : TankEntry} {r : TankRecord} (h : r.Accounted x) (d : Nat) :
    (r.debit d).balance + (r.debit d).debits + (r.debit d).excess =
      x.loaded * 1000 + (r.debit d).credits + (r.debit d).shortfall := by
  have := h.identity
  simp only [TankRecord.debit]
  omega

theorem TankRecord.Accounted.debit_fits {x : TankEntry} {r : TankRecord} (h : r.Accounted x) (d : Nat) :
    (r.debit d).balance ≤ x.capacity * 1000 :=
  (Nat.sub_le _ _).trans h.fits

/-- A credit moves what it brings between balance, credits and excess (R169). -/
theorem TankRecord.Accounted.credit_identity {x : TankEntry} {r : TankRecord} (h : r.Accounted x) (top c : Nat) :
    (r.credit top c).balance + (r.credit top c).debits + (r.credit top c).excess =
      x.loaded * 1000 + (r.credit top c).credits + (r.credit top c).shortfall := by
  have := h.identity
  simp only [TankRecord.credit]
  omega

/-! ### What leaves the tanks -/

/-- Two states with the same tank records and the same words of the TANK table. -/
structure State.SameTanks (s u : State) : Prop where
  tanks : u.fuel.tanks = s.fuel.tanks
  words : (u.table .tank).words = (s.table .tank).words

section Reading

variable {s u : State}

theorem State.tankEntry_of_words (h : (u.table .tank).words = (s.table .tank).words) : u.tankEntry = s.tankEntry := by
  funext t
  simp only [State.tankEntry, Table.word2, Table.word, h]

theorem State.SameTanks.refl (s : State) : s.SameTanks s := ⟨rfl, rfl⟩

theorem State.SameTanks.of_records (ht : u.fuel.tanks = s.fuel.tanks) (hm : u.mgmt.tables = s.mgmt.tables) :
    s.SameTanks u :=
  ⟨ht, by rw [State.table, hm, State.table]⟩

theorem State.SameTanks.of_units (hf : u.fuel = s.fuel) (hm : u.mgmt = s.mgmt) : s.SameTanks u :=
  .of_records (congrArg _ hf) (congrArg _ hm)

theorem State.TanksAccounted.of_same (h : s.TanksAccounted) (hu : s.SameTanks u) : u.TanksAccounted := by
  unfold State.TanksAccounted
  rw [hu.tanks, State.tankEntry_of_words hu.words]
  exact h

theorem State.TanksAccounted.of_none (h : ∀ t : Fin 8, s.fuel.tanks[t] = none) : s.TanksAccounted :=
  fun t r hr => absurd ((h t).symm.trans hr) (by simp)

end Reading

/-! ### The fuel unit (R156 to R160, R168 to R173) -/

section Fuel

variable {s : State}

theorem State.evaluated_tanks (t : Fin 8) (r : TankRecord) (s : State) : (s.evaluated t r).fuel.tanks =
    put s.fuel.tanks t (some { r with reserve := s.inReserve t r.balance }) := by
  unfold State.evaluated
  dsimp only
  split <;> rfl

/-- An evaluation stores an accounted record when identity and bound hold before it (R170). -/
theorem State.TanksAccounted.evaluated (h : s.TanksAccounted) {t : Fin 8} {r : TankRecord}
    (hidentity : r.balance + r.debits + r.excess = (s.tankEntry t).loaded * 1000 + r.credits + r.shortfall)
    (hfits : r.balance ≤ (s.tankEntry t).capacity * 1000) : (s.evaluated t r).TanksAccounted := by
  intro k x hx
  have hwords := congrArg Table.words (State.table_of_mgmt (State.evaluated_mgmt t r s) .tank)
  rw [State.tankEntry_of_words hwords]
  rw [State.evaluated_tanks, put_get] at hx
  split at hx
  · rename_i hk
    subst hk
    exact Option.some.inj hx ▸ ⟨hidentity, hfits, rfl⟩
  · exact h k x hx

theorem State.TanksAccounted.debitTank (h : s.TanksAccounted) (t : Fin 8) (d : Nat) :
    (s.debitTank t d).TanksAccounted := by
  cases hr : s.fuel.tanks[t] with
  | none =>
    rw [State.debitTank, hr]
    exact h
  | some r =>
    have hrecord := h t r hr
    rcases Nat.eq_zero_or_pos d with rfl | hpos
    · exact (s.debitTank_zero t).symm ▸ h
    · rcases Nat.lt_or_ge r.balance d with hd | hd
      · rw [State.debitTank_beyond hr hd]
        exact State.TanksAccounted.evaluated (s := s.raise .tankShortfall t.val) h (hrecord.debit_identity d)
          (hrecord.debit_fits d)
      · rw [State.debitTank_within hr hpos hd]
        exact h.evaluated (hrecord.debit_identity d) (hrecord.debit_fits d)

theorem State.TanksAccounted.creditTank (h : s.TanksAccounted) (t : Fin 8) (c : Nat) :
    (s.creditTank t c).TanksAccounted := by
  cases hr : s.fuel.tanks[t] with
  | none =>
    rw [State.creditTank, hr]
    exact h
  | some r =>
    rcases Nat.eq_zero_or_pos c with rfl | hpos
    · exact (s.creditTank_zero t).symm ▸ h
    · rw [State.creditTank_evaluated hr hpos]
      exact h.evaluated ((h t r hr).credit_identity _ c) (Nat.min_le_left _ _)

/-- The store booking is a credit, a debit or a change of the unassigned accumulator (R157, R158). -/
theorem State.TanksAccounted.bookStore (h : s.TanksAccounted) (x : MeterEntry) (v : Nat) :
    (s.bookStore x v).TanksAccounted := by
  unfold State.bookStore
  split
  · split
    · exact h.creditTank _ v
    · exact h.debitTank _ v
  · exact h

/-- Of what a FLOW does only the store booking touches a tank (R150 to R160). -/
theorem State.TanksAccounted.takeFlow (h : s.TanksAccounted) (ch : Nat) (data : List Byte) :
    (s.takeFlow ch data).TanksAccounted := by
  have checked {u : State} (hu : u.TanksAccounted) (x : MeterEntry) (v : Nat) : (u.checkRun x v).TanksAccounted := by
    unfold State.checkRun
    split <;> exact hu
  unfold State.takeFlow State.meterFlow
  dsimp only
  split
  · exact h
  · split
    · exact h
    · split
      · exact h
      · refine checked (State.TanksAccounted.bookStore ?_ _ _) _ _
        exact h

theorem State.capture_tanks (why : CaptureReason) (s : State) : s.SameTanks (s.capture why) := by
  unfold State.capture
  dsimp only
  split <;> exact ⟨rfl, rfl⟩

end Fuel

/-! ### Tables opened, written and closed (R175, R185 to R190) -/

section Tables

variable {s : State}

/-- A table stored leaves the tanks when it is not TANK, or has the same words. -/
theorem State.SameTanks.of_stored {u : State} {t : TableId} {x : Table} (ht : u.fuel.tanks = s.fuel.tanks)
    (hm : u.mgmt.tables = put s.mgmt.tables (tableNum t) x) (hx : t = .tank → x.words = (s.table .tank).words) :
    s.SameTanks u := by
  refine ⟨ht, ?_⟩
  have hstored : u.table .tank = (s.withTable t x).table .tank := by
    rw [State.table, hm]
    rfl
  rw [hstored, State.withTable_table]
  split
  · exact hx ‹_›
  · rfl

/-- The records that TANK brings when it becomes READY begin with the balance loaded, which fits (R175). -/
theorem State.createTanks_accounted (s : State) : s.createTanks.TanksAccounted := by
  intro t r hr
  have hwords := congrArg Table.words (State.table_of_mgmt s.createTanks_mgmt .tank)
  rw [State.tankEntry_of_words hwords]
  rw [State.createTanks_eq, foldl_field State.fuel fun u _ => State.raise_fuel _ _ u] at hr
  have hloaded : (if s.reaches .tank t.val then some (s.loadedTank t) else none) = some r := by
    simpa [State.withTanks] using hr
  obtain ⟨-, hsome⟩ := Option.ite_none_right_eq_some.mp hloaded
  rw [← Option.some.inj hsome]
  exact ⟨rfl, Nat.mul_le_mul_right 1000 (Nat.min_le_left _ _), rfl⟩

/-- An open of TANK ends every tank, and one of another table leaves them (R175, R185). -/
theorem State.TanksAccounted.openTable (h : s.TanksAccounted) (t : TableId) (n : Nat) :
    (s.openTable t n).TanksAccounted := by
  by_cases ht : t = .tank
  · subst ht
    exact .of_none fun k => replicate_get _ k
  · refine h.of_same (.of_stored ?_ (congrArg TableUnit.tables (State.afterOpen_mgmt t _)) fun htank => absurd htank ht)
    cases t with
    | tank => exact absurd rfl ht
    | _ => simp [State.openTable, State.afterOpen]

theorem State.TanksAccounted.tableOpen (h : s.TanksAccounted) (args : List Byte) :
    (s.tableOpen args).state.TanksAccounted := by
  unfold State.tableOpen State.needs
  (repeat' split)
  case h_2.isFalse => exact h.openTable _ _
  all_goals exact h

/-- Words are stored in the table being loaded: if it is TANK, there is no tank (R187). -/
theorem State.TanksAccounted.tableWrite (h : s.TanksAccounted) (htables : s.TablesFit) (hrecords : s.RecordsFit)
    (args : List Byte) : (s.tableWrite args).state.TanksAccounted := by
  unfold State.tableWrite
  split
  · exact h
  · rename_i t hslot
    have hloading : (s.table t).state = .loading := (htables.each t).held_iff.mp hslot
    dsimp only
    split_ifs
    · exact h
    · exact h
    · by_cases ht : t = .tank
      · subst ht
        have hnone := hrecords.none_of_not_ready (t := .tank) (by simp [hloading])
        exact .of_none fun k => by simpa [State.presence] using congrFun hnone k
      · exact h.of_same (.of_stored rfl rfl fun htank => absurd htank ht)

/-- The end of a load leaves the words of every table. -/
theorem State.TanksAccounted.endLoad (h : s.TanksAccounted) (t : TableId) (st : TableState) (cause : Cause) :
    (s.endLoad t st cause).TanksAccounted :=
  h.of_same (.of_stored (t := t) rfl rfl fun ht => by rw [ht])

/-- The reading unit of a table that becomes READY; only TANK's brings tanks (R175). -/
theorem State.TanksAccounted.afterReady (h : s.TanksAccounted) (t : TableId) : (s.afterReady t).TanksAccounted := by
  cases t with
  | tank => exact s.createTanks_accounted
  | meter => exact h
  | _ => exact h.of_same (.of_units (by simp [State.afterReady, State.createActuators]) (State.afterReady_mgmt _ s))

theorem State.TanksAccounted.tableClose (h : s.TanksAccounted) (args : List Byte) :
    (s.tableClose args).state.TanksAccounted := by
  unfold State.tableClose State.needs
  (repeat' split)
  · exact h
  · exact h
  · exact (h.endLoad _ .ready .none).afterReady _
  · exact h.endLoad _ .rejected _

end Tables

/-! ### The other commands (R172, R173, R193) -/

section Answers

variable {s : State} (args : List Byte)

/-- A command with required arguments changes nothing, or is its rule (R193). -/
theorem State.needs_gives (P : State → Prop) (n : Nat) {a : Answer} (hs : P s) (ha : P a.state) :
    P (s.needs n args a).state := by
  unfold State.needs
  split
  · exact hs
  · exact ha

theorem State.TanksAccounted.bunkerTank (h : s.TanksAccounted) : (s.bunkerTank args).state.TanksAccounted := by
  refine State.needs_gives args State.TanksAccounted 4 h ?_
  (repeat' split)
  · exact h
  · exact h
  · exact h.creditTank _ _

theorem State.TanksAccounted.transferFuel (h : s.TanksAccounted) : (s.transferFuel args).state.TanksAccounted := by
  refine State.needs_gives args State.TanksAccounted 5 h ?_
  (repeat' split)
  · exact h
  · exact h
  · exact (h.debitTank _ _).creditTank _ _
  · exact h

@[simp] theorem State.storeParam_fuel (p : Param) (v : Nat) (s : State) : (s.storeParam p v).fuel = s.fuel := by
  unfold State.storeParam
  dsimp only
  split <;> simp

@[simp] theorem State.zeroed_tanks (c : Counter) (s : State) : (s.zeroed c).fuel.tanks = s.fuel.tanks := by
  cases c <;> rfl

/-- Every command but those that load a table or book to a tank leaves the tanks. -/
theorem commandBody_sameTanks (s : State) {code : Nat} (hcode : code ∉ [0x01, 0x02, 0x03, 0x32, 0x33]) :
    s.SameTanks (commandBody code args s).state := by
  unfold commandBody
  split
  case h_1 | h_2 | h_3 | h_14 | h_15 => exact absurd (by decide) hcode
  case h_5 =>
    unfold State.tableRead
    dsimp only
    (repeat' split) <;> exact ⟨rfl, rfl⟩
  case h_12 => exact s.capture_tanks .mgmt
  case h_21 => exact .refl s
  all_goals
    refine State.needs_gives args s.SameTanks _ (.refl s) ?_
    (repeat' split) <;> exact .of_records (by simp) (by simp)

theorem State.TanksAccounted.commandBody (h : s.TanksAccounted) (htables : s.TablesFit) (hrecords : s.RecordsFit)
    (code : Nat) : (commandBody code args s).state.TanksAccounted := by
  by_cases hcode : code ∈ [0x01, 0x02, 0x03, 0x32, 0x33]
  · simp only [List.mem_cons, List.not_mem_nil, or_false] at hcode
    rcases hcode with rfl | rfl | rfl | rfl | rfl
    · exact h.tableOpen args
    · exact h.tableWrite htables hrecords args
    · exact h.tableClose args
    · exact h.bunkerTank args
    · exact h.transferFuel args
  · exact h.of_same (commandBody_sameTanks args s hcode)

end Answers

/-! ### Station frames (chapter 2) -/

section Station

variable (s : State) (data : List Byte) (i : Fin 4)

theorem State.leverFrom_sameTanks : s.SameTanks (s.leverFrom data i) := by
  refine .of_units ?_ (s.leverFrom_mgmt data i)
  unfold State.leverFrom
  dsimp only
  split <;> simp

theorem State.helmFrom_sameTanks : s.SameTanks (s.helmFrom data i) := by
  refine .of_units ?_ (s.helmFrom_mgmt data i)
  unfold State.helmFrom
  dsimp only
  split <;> simp

theorem State.takeFrom_sameTanks : s.SameTanks (s.takeFrom data i) := by
  refine .of_units ?_ (s.takeFrom_mgmt data i)
  rw [State.takeFrom_eq, State.grantTake]
  split <;> simp

theorem State.watchFrom_sameTanks : s.SameTanks (s.watchFrom i) := by
  unfold State.watchFrom
  split
  · exact s.capture_tanks .watch
  · exact .refl s

theorem State.stationFrame_sameTanks (k : StationKind) (ch : Nat) {handle : Fin 4 → State → State}
    (hh : ∀ i (t : State), t.SameTanks (handle i t)) : s.SameTanks (s.stationFrame k ch data handle) := by
  unfold State.stationFrame
  dsimp only
  split
  · exact .refl s
  · split
    · exact .of_units rfl rfl
    · exact ⟨(hh _ _).tanks, (hh _ _).words⟩

end Station

/-! ### The step -/

/-- A warm restart keeps the tank records and the words of the tables (R175, R199). -/
theorem State.warm_sameTanks (straps : Straps) (s : State) : s.SameTanks (s.warm straps) where
  tanks := by rw [State.warm_fuel]; rfl
  words := by rw [State.table_restarted (s.warm_mgmt straps), Table.restarted_words]

/-- Every rule of the units keeps the tanks accounted for: FLOW, BUNKER and TRANSFER book, the TANK table brings and ends
records, a power-on reset ends them, and the rest leaves them. -/
theorem State.TanksAccounted.rulesGive {s : State} (h : s.TanksAccounted) (htables : s.TablesFit)
    (hrecords : s.RecordsFit) : s.RulesGive State.TanksAccounted where
  free hu ht := ht.of_same (.of_units hu.fuel hu.mgmt)
  idle := h
  command code args := h.commandBody args htables hrecords code
  lever ch data := h.of_same (s.stationFrame_sameTanks data .lever ch fun i t => t.leverFrom_sameTanks data i)
  helm ch data := h.of_same (s.stationFrame_sameTanks data .helm ch fun i t => t.helmFrom_sameTanks data i)
  take ch data := h.of_same (s.stationFrame_sameTanks data .take ch fun i t => t.takeFrom_sameTanks data i)
  watch ch data := h.of_same (s.stationFrame_sameTanks data .watch ch fun i t => t.watchFrom_sameTanks i)
  govReport ch data := h.of_same (.of_units (State.takeGovReport_fuel ch data s) (State.takeGovReport_mgmt ch data s))
  rudReport p ch data :=
    h.of_same (.of_units (State.takeRudReport_fuel p ch data s) (State.takeRudReport_mgmt p ch data s))
  coupleReport ch data :=
    h.of_same (.of_units (State.takeCoupleReport_fuel ch data s) (State.takeCoupleReport_mgmt ch data s))
  flow ch data := h.takeFlow ch data
  ramp := h.of_same (.of_units s.rampExpiry_fuel s.rampExpiry_mgmt)
  dwell e t ht := by
    obtain rfl := Host.Outcome.next.inj ht
    split
    · exact h
    · exact h.of_same (.of_units (State.onChannel_fuel e _ s) (State.onChannel_mgmt e _ s))
  freshness e t ht := by
    obtain rfl := Host.Outcome.next.inj ht
    (repeat' split) <;> exact h
  hold e t ht := by
    obtain rfl := Host.Outcome.next.inj ht
    split
    · exact h
    · exact h.of_same (.of_units (State.onChannel_fuel e _ s) (State.onChannel_mgmt e _ s))
  steering := h.of_same (.of_units s.steeringExpiry_fuel s.steeringExpiry_mgmt)
  helmTimer t ht := by
    obtain rfl := Host.Outcome.next.inj ht
    split <;> exact h
  poll := h.of_same (.of_units s.pollExpiry_fuel s.pollExpiry_mgmt)
  release t ht := by
    obtain rfl := Host.Outcome.next.inj ht
    split
    · exact h
    · split
      · exact h
      · exact h.of_same (.of_units (State.failRelease_fuel _ s) (State.failRelease_mgmt _ s))
  coldStart straps := .of_none fun t => replicate_get _ t
  warm straps := h.of_same (s.warm_sameTanks straps)

/-- Settles O59. -/
theorem everyStepKeepsTanks : Obligations.EveryStepKeepsTanks := by
  intro s t htables hrecords hs hstep
  rw [State.tablesSound_iff] at htables
  rw [State.recordsSound_iff] at hrecords
  rw [State.tanksSound_iff] at hs ⊢
  refine step_of_rules hs (fun rest => ?_) hstep
  exact State.TanksAccounted.rulesGive (s := { s with pending := rest }) hs ⟨htables.each, htables.within⟩ hrecords

end Sys2Proof.Machine
end

section
/-! PROOF. BUNKER and TRANSFER by their rows (R172, R173). -/

namespace Sys2Proof.Machine

/-! ### The tank an argument names, and its record -/

section Naming

variable {s : State} {v : Nat} {t : Fin 8}

/-- An argument that names a tank with a record. -/
def State.namesTank (s : State) (v : Nat) (t : Fin 8) : Prop := v = t.val ∧ s.fuel.tanks[t] ≠ none

theorem State.tankNamed_some (h : s.namesTank v t) : s.tankNamed v = some t := by
  obtain ⟨hv, hrecord⟩ := h
  rw [State.tankNamed, index?_eq_some.mpr hv]
  exact if_pos (Option.isSome_iff_ne_none.mpr hrecord)

theorem State.tankNamed_none (h : ∀ t, ¬s.namesTank v t) : s.tankNamed v = none := by
  unfold State.tankNamed
  split
  · rfl
  · rename_i t ht
    refine if_neg fun hrecord => h t ⟨index?_eq_some.mp ht, ?_⟩
    exact Option.isSome_iff_ne_none.mp hrecord

theorem State.tankBalance_eq (s : State) (t : Fin 8) :
    s.tankBalance t = ((s.fuel.tanks[t]).map TankRecord.balance).getD 0 := by
  rw [State.tankBalance]
  cases s.fuel.tanks[t] <;> rfl

theorem State.tankExcess_eq (s : State) (t : Fin 8) :
    s.tankExcess t = ((s.fuel.tanks[t]).map TankRecord.excess).getD 0 := by
  rw [State.tankExcess]
  cases s.fuel.tanks[t] <;> rfl

end Naming

/-! ### The two rules -/

section Bunkering

variable {s : State} {args : List Byte} (hlen : 4 ≤ args.length)

include hlen

theorem State.bunkerTank_unready (hready : s.ready .tank = false) : s.bunkerTank args = s.says .badState [] := by
  rw [State.bunkerTank, State.needs_met _ _ hlen, if_pos hready]

variable (hready : s.ready .tank = true)

include hready

theorem State.bunkerTank_unnamed (hnone : ∀ t, ¬s.namesTank (byteAt args 0) t) :
    s.bunkerTank args = s.says .badIndex [] := by
  rw [State.bunkerTank, State.needs_met _ _ hlen, if_neg (by simp [hready]), State.tankNamed_none hnone]

theorem State.bunkerTank_named {t : Fin 8} (ht : s.namesTank (byteAt args 0) t) :
    s.bunkerTank args =
      let u := s.creditTank t (u24At args 1 * 1000)
      u.says .ok (fieldOf 3 (u.tankBalance t / 1000) ++ fieldOf 3 ((u.tankExcess t - s.tankExcess t) / 1000)) := by
  rw [State.bunkerTank, State.needs_met _ _ hlen, if_neg (by simp [hready]), State.tankNamed_some ht]

end Bunkering

section Transferring

variable {s : State} {args : List Byte} (hlen : 5 ≤ args.length)

include hlen

theorem State.transferFuel_unready (hready : s.ready .tank = false) : s.transferFuel args = s.says .badState [] := by
  rw [State.transferFuel, State.needs_met _ _ hlen, if_pos hready]

variable (hready : s.ready .tank = true)

include hready

theorem State.transferFuel_unnamed
    (hnone : (∀ t, ¬s.namesTank (byteAt args 0) t) ∨ ∀ t, ¬s.namesTank (byteAt args 1) t) :
    s.transferFuel args = s.says .badIndex [] := by
  rw [State.transferFuel, State.needs_met _ _ hlen, if_neg (by simp [hready])]
  rcases hnone with hfirst | hsecond
  · rw [State.tankNamed_none hfirst]
  · rw [State.tankNamed_none hsecond]
    cases s.tankNamed (byteAt args 0) <;> rfl

variable {a b : Fin 8} (ha : s.namesTank (byteAt args 0) a) (hb : s.namesTank (byteAt args 1) b)

include ha hb

theorem State.transferFuel_named : s.transferFuel args =
    if a = b then s.says .badValue []
    else
      let moved := min (u24At args 2 * 1000) (s.tankBalance a)
      let u := (s.debitTank a moved).creditTank b moved
      u.says .ok (fieldOf 3 (moved / 1000) ++ fieldOf 3 ((u.tankExcess b - s.tankExcess b) / 1000)) := by
  rw [State.transferFuel, State.needs_met _ _ hlen, if_neg (by simp [hready]), State.tankNamed_some ha,
    State.tankNamed_some hb]

end Transferring

/-- Settles O32. -/
theorem bunkerAndTransferMoveFuel : Obligations.BunkerAndTransferMoveFuel := by
  intro tag args s hs tank balance excess
  have answered {t : State} {body : State → Answer} {st : Status} {fields : List Byte} (hb : body s = t.says st fields)
      (hc : t.channel = s.channel) : Host.Outcome.next (s.managed tag body) =
        (.next (t.replied tag st fields) : Host.Outcome State Fault Refusal) :=
    congrArg Host.Outcome.next (State.managed_says tag hs hb hc)
  refine ⟨fun hlen => ⟨fun hready => ?_, fun hready hnone => ?_, fun t hready ht => ?_⟩,
    fun hlen => ⟨fun hready => ?_, fun hready hnone => ?_, fun a hready ha hb => ?_, fun a b hready ha hb hab => ?_⟩⟩
  · exact answered (State.bunkerTank_unready hlen hready) rfl
  · exact answered (State.bunkerTank_unnamed hlen hready hnone) rfl
  · have hrule := State.bunkerTank_named hlen hready ht
    simp only [State.tankBalance_eq, State.tankExcess_eq] at hrule
    exact answered hrule (by simp)
  · exact answered (State.transferFuel_unready hlen hready) rfl
  · exact answered (State.transferFuel_unnamed hlen hready hnone) rfl
  · exact answered ((State.transferFuel_named hlen hready ha hb).trans (if_pos rfl)) rfl
  · have hrule := (State.transferFuel_named hlen hready ha hb).trans (if_neg hab)
    simp only [State.tankBalance_eq, State.tankExcess_eq] at hrule
    exact answered hrule (by simp)

end Sys2Proof.Machine
end

section
/-! PROOF. The snapshot buffer: what a capture copies, who takes one (R36, R178 to R180), and SNAP-READ by its rows (R181). -/

namespace Sys2Proof.Machine

/-! ### The account as a capture copies it (R178, R179) -/

/-- A total taken tank by tank is the sum over the tanks. -/
theorem foldl_add_eq_sum {α : Type} (f : α → Nat) (l : List α) :
    l.foldl (fun n x => n + f x) 0 = (l.map f).sum := by
  rw [List.sum_eq_foldl, List.foldl_map]

section Capturing

variable (s : State)

theorem State.shortfallSum_eq : s.shortfallSum =
    ((List.finRange 8).map fun t => ((s.fuel.tanks[t]).map TankRecord.shortfall).getD 0).sum := by
  rw [State.shortfallSum, foldl_add_eq_sum]
  refine congrArg List.sum (List.map_congr_left fun t _ => ?_)
  cases s.fuel.tanks[t] <;> rfl

theorem State.netMass_tankless {e : Fin 4} (h : (s.engineEntry e).feedTank = none) : s.netMass e = 0 := by
  have hnone : s.massTank e = none := by
    rw [State.massTank, h]
    exact ite_self none
  rw [State.netMass, hnone]

/-- The net mass is that of what the engine burned, by the density of a feed tank within the READY tables (R179). -/
theorem State.netMass_tank {e : Fin 4} {t : Fin 8} (h : (s.engineEntry e).feedTank = some t) : s.netMass e =
    if s.ready .engine = true ∧ e.val < (s.table .engine).count ∧ s.ready .tank = true ∧
        t.val < (s.table .tank).count then
      min Config.litresMax
        ((s.fuel.engines[e].supply - s.fuel.engines[e].ret) * (s.tankEntry t).density / 1000000)
    else 0 := by
  have hmass : s.massTank e = if s.ready .engine = true ∧ e.val < (s.table .engine).count ∧ s.ready .tank = true ∧
      t.val < (s.table .tank).count then some t else none := by
    simp only [State.massTank, h, State.reaches, Bool.and_eq_true, decide_eq_true_eq, ← ite_and, and_assoc]
  rw [State.netMass, hmass]
  split_ifs <;> rfl

/-- A capture stores the account as it stands, and renews a HELD buffer (R178, R180). -/
theorem State.capture_stores {why : CaptureReason} {c : Capture}
    (hc : s.captured ((s.fuel.captureSeq + 1) % 65536) why = c) : s.capture why =
    let taken : State := { s with fuel := { s.fuel with
      captureSeq := (s.fuel.captureSeq + 1) % 65536
      snapshot := some { capture := c, renewal := s.fuel.snapshot.isSome } } }
    if s.fuel.snapshot.isSome then taken.raise .snapshotRenewed ((s.fuel.captureSeq + 1) % 65536 % 256) else taken := by
  subst hc
  rfl

theorem State.capture_captureSeq (why : CaptureReason) :
    (s.capture why).fuel.captureSeq = (s.fuel.captureSeq + 1) % 65536 := by
  rw [State.capture_stores s rfl]
  dsimp only
  split <;> rfl

end Capturing

/-- Settles O33. -/
theorem captureCopiesTheAccount : Obligations.CaptureCopiesTheAccount := by
  refine ⟨fun why s => ?_, fun tag args s hs => ?_, fun ch data i s hs hlen hi hq => ?_⟩
  · intro seq held tank litres mass shortfalls capture taken
    have hmass (e : Fin 4) : s.netMass e = mass e := by
      cases hfeed : (s.engineEntry e).feedTank with
      | none =>
        simp only [mass, hfeed]
        exact s.netMass_tankless hfeed
      | some t =>
        simp only [mass, hfeed]
        exact s.netMass_tank hfeed
    refine State.capture_stores s ?_
    simp only [State.captured, hmass, State.tankBalance_eq, State.shortfallSum_eq]
    rfl
  · refine congrArg Host.Outcome.next (State.managed_says tag (body := State.snapCapture args) hs ?_ (by simp))
    rw [State.snapCapture, State.capture_captureSeq]
  · exact congrArg Host.Outcome.next
      (State.stationEvent_accepted .watch (kind := 13) State.watchFrom hs hlen hi hq)

/-! ### SNAP-READ (R181) -/

section Reading

theorem setByte_eq_sum (v : Vector Bool 8) :
    setByte v = ((List.finRange 8).map fun i => if v[i] then 2 ^ i.val else 0).sum :=
  foldl_add_eq_sum _ _

/-- Parts 1 to 4 are the totals of the four engines (R203). -/
theorem Snapshot.part_engine (x : Snapshot) (e : Fin 4) :
    x.part (e.val + 1) = fieldOf 3 x.capture.supply[e] ++ fieldOf 3 x.capture.ret[e] := by
  match e with
  | 0 => rfl
  | 1 => rfl
  | 2 => rfl
  | 3 => rfl

theorem Snapshot.part_zero (x : Snapshot) : x.part 0 = fieldOf 3 x.capture.sequence ++
    [if x.capture.reason = .mgmt then 0 else 1, flagByte x.renewal,
      BitVec.ofNat 8 ((List.finRange 8).map fun i => if x.capture.tanksPresent[i] then 2 ^ i.val else 0).sum] := by
  rw [Snapshot.part, setByte_eq_sum]
  cases x.capture.reason <;> rfl

variable {s : State} {args : List Byte} (hlen : 1 ≤ args.length)

include hlen

theorem State.snapRead_beyond (hpart : 12 ≤ byteAt args 0) : s.snapRead args = s.says .badIndex [] := by
  rw [State.snapRead, State.needs_met _ _ hlen, if_pos (by omega)]

theorem State.snapRead_empty (hpart : byteAt args 0 ≤ 11) (hsnap : s.fuel.snapshot = none) :
    s.snapRead args = s.says .empty [] := by
  rw [State.snapRead, State.needs_met _ _ hlen, if_neg (by omega), hsnap]

variable {x : Snapshot} (hsnap : s.fuel.snapshot = some x)

include hsnap

theorem State.snapRead_part {k : Nat} (hk : k < 11) (hpart : byteAt args 0 = k) :
    s.snapRead args = s.says .ok (x.part k) := by
  rw [State.snapRead, State.needs_met _ _ hlen, if_neg (by omega), hsnap]
  exact (if_pos (by omega)).trans (by rw [hpart])

/-- Part 11 gives the buffer back, unless it has been renewed (R181). -/
theorem State.snapRead_last (hpart : byteAt args 0 = 11) : s.snapRead args =
    if x.renewal then (s.withSnapshot (some { x with renewal := false })).says .renewed (x.part 11)
    else (s.withSnapshot none).says .ok (x.part 11) := by
  rw [State.snapRead, State.needs_met _ _ hlen, if_neg (by omega), hsnap]
  exact if_neg (by omega)

end Reading

/-- Settles O34. -/
theorem snapReadReturnsParts : Obligations.SnapReadReturnsParts := by
  intro tag args s hs hlen part
  have answered {t : State} {st : Status} {fields : List Byte} (hb : s.snapRead args = t.says st fields)
      (hc : t.channel = s.channel) : exec (.snapRead tag args) s = .next (t.replied tag st fields) :=
    congrArg Host.Outcome.next (State.managed_says tag hs hb hc)
  refine ⟨fun hpart => answered (State.snapRead_beyond hlen hpart) rfl,
    fun hpart hsnap => answered (State.snapRead_empty hlen hpart hsnap) rfl, fun c renewal hsnap => ?_⟩
  intro out pair last present
  have read {k : Nat} (hk : k < 11) (hpart : part = k) := answered (State.snapRead_part hlen hsnap hk hpart) rfl
  have gives (hpart : part = 11) := State.snapRead_last hlen hsnap hpart
  refine ⟨fun hpart => ?_, fun e hpart => ?_, read (by decide), read (by decide), read (by decide), read (by decide),
    read (by decide), read (by decide), fun hpart hrenewed => ?_, fun hpart hfresh => ?_⟩
  · rw [read (by decide) hpart, Snapshot.part_zero]
  · rw [read (by omega) hpart, Snapshot.part_engine]
  · exact answered ((gives hpart).trans (if_pos hrenewed)) rfl
  · exact answered ((gives hpart).trans (if_neg (by simp [hfresh]))) rfl

end Sys2Proof.Machine
end

section
/-! PROOF. A part held in a restart (R198, R199), the raise of a notice as an offer of its NOTICE (R196), and the RESTART
command (R199). -/

namespace Sys2Proof.Machine

/-! ### A part held in a restart (00_scope.md section 6, R198, R199) -/

section Held

variable {s : State} (h : s.restart.isSome = true)

include h

/-- A part held in a restart hears no port. -/
theorem State.not_hears_of_held (p : Port) : ¬s.hears p := fun hears => by simp [hears.1] at h

/-- A part held in a restart takes no management command. -/
theorem State.managed_held (tag : Byte) (body : State → Answer) : s.managed tag body = s :=
  State.managed_discarded tag body fun listens => by simp [listens.1] at h

theorem State.requestRestart_held (tag : Byte) : s.requestRestart tag = s := by
  rw [State.requestRestart, h, Bool.true_or, if_pos rfl]

end Held

/-- Settles O3: each command is a frame, a management command, or an event that looks at the restart first. -/
theorem restartHoldsEverything : Obligations.RestartHoldsEverything := by
  intro c s h hreset hend
  have frame (p : Port) (least : Nat) (unit : State → State) (f : Frame) :
      Host.Outcome.next (φ := Fault) (ρ := Refusal) (s.frameEvent p least unit f) = .next s :=
    congrArg _ (State.frameEvent_deaf p least unit f (State.not_hears_of_held h p))
  have command (tag : Byte) (body : State → Answer) :
      Host.Outcome.next (φ := Fault) (ρ := Refusal) (s.managed tag body) = .next s :=
    congrArg _ (State.managed_held h tag body)
  have event {b : Bool} (t : State) :
      Host.Outcome.next (φ := Fault) (ρ := Refusal) (if s.restart.isSome || b then s else t) = .next s := by
    rw [h, Bool.true_or, if_pos rfl]
  have held (t : State) : Host.Outcome.next (φ := Fault) (ρ := Refusal) (if s.restart.isSome then s else t) = .next s :=
    congrArg _ (if_pos h)
  cases c with
  | frameReceived p f => exact congrArg _ (State.received_deaf f (State.not_hears_of_held h p))
  | lever | helm | take | watch | govReport | coupleReport | flow => exact frame _ _ _ _
  | rudReport p =>
    show Host.Outcome.next (if p = .w then _ else _) = _
    split <;> exact frame _ _ _ _
  | restartCommand tag => exact congrArg _ (State.requestRestart_held h tag)
  | transmitComplete | helmTimerExpiry | releaseTimerExpiry => exact event _
  | linkLost | linkRestored | rampTimerExpiry | dwellTimerExpiry | freshnessTimerExpiry | holdTimerExpiry
  | steeringTimerExpiry | pollTimerExpiry | warmRestart => exact held _
  | powerOnReset => exact absurd rfl hreset
  | endOfRestart straps => exact absurd rfl (hend straps)
  | _ => exact command _ _

/-! ### The raise of a notice (R196) -/

/-- W refuses a BULK frame while it is DOWN or its BULK queue is full (R11, R21). -/
theorem PortUnit.no_room_for_bulk {u : PortUnit} (h : u.link = .down ∨ 8 ≤ u.bulk.length) :
    ¬(u.link = .up ∧ (u.lowQueue .bulk).length < lowCap .bulk) := by
  rintro ⟨hup, hroom⟩
  rcases h with hdown | hfull
  · simp [hup] at hdown
  · exact absurd hroom (Nat.not_lt.mpr hfull)


/-- A raise sets the flag and the last index; when the flag rises while the kind is enabled, its NOTICE is then a frame
offered to W's BULK queue like any other (R196). -/
theorem State.raise_eq_offer (k : NoticeKind) (i : Nat) (s : State) : s.raise k i =
    if s.comms.tells s.env k then
      State.offerLow .w .bulk (noticeFrame s.env k i) { s with comms := s.comms.record k i }
    else { s with comms := s.comms.record k i } := by
  unfold State.raise Comms.raise
  split <;> rfl

theorem Comms.tells_iff (e : Env) (k : NoticeKind) (c : Comms) : c.tells e k = true ↔
    c.notices[noticeNum k].flag = false ∧ e.enable.getLsbD (noticeNum k).val = true := by
  simp [Comms.tells, Comms.notice]

/-- Settles O9. -/
theorem noticeRaiseTellsOnce : Obligations.NoticeRaiseTellsOnce := by
  refine ⟨rfl, fun k i s => ?_⟩
  intro told notice
  have hraise : s.raise k i = if s.comms.tells s.env k then told.offerLow .w .bulk notice else told :=
    State.raise_eq_offer k i s
  have hoffer (hclear : s.comms.notices[noticeNum k].flag = false)
      (henabled : s.params.noticeEnable.getLsbD (noticeNum k).val = true) :
      s.raise k i = told.offerLow .w .bulk notice :=
    hraise.trans (if_pos ((Comms.tells_iff s.env k s.comms).mpr ⟨hclear, henabled⟩))
  refine ⟨fun hsilent => hraise.trans (if_neg fun htells => ?_), fun hclear henabled hup hroom => ?_,
    fun hclear henabled hfull => ?_⟩
  · obtain ⟨hclear, henabled⟩ := (Comms.tells_iff s.env k s.comms).mp htells
    rcases hsilent with hset | hdisabled
    · exact absurd (hclear.symm.trans hset) (by simp)
    · exact absurd (henabled.symm.trans hdisabled) (by simp)
  · rw [hoffer hclear henabled]
    exact State.offerLow_joined (p := .w) (c := .bulk) hup hroom
  · rw [hoffer hclear henabled]
    exact State.offerLow_refused (p := .w) (c := .bulk) (PortUnit.no_room_for_bulk hfull)

/-! ### The RESTART command (R199) -/

section Requesting

variable {s : State} (tag : Byte) (hs : s.listens)

include hs

/-- A REPLY that joins W's BULK queue begins a restart pending state, with the frames ahead of it counted (R199). -/
theorem State.requestRestart_joined (hup : s.comms.w.link = .up) (hroom : s.comms.w.bulk.length < 8) :
    s.requestRestart tag = { s.onPort .w (fun u =>
        PortUnit.grant s.env { u with bulk := u.bulk ++ [replyFrame s.channel tag .ok []] }) with
      replyWait := some s.comms.w.bulk.length } := by
  have hjoin : (s.comms.port .w).joinLow s.env .bulk (replyFrame s.channel tag .ok []) =
      some ((s.comms.w.pushLow .bulk (replyFrame s.channel tag .ok [])).grant s.env) := if_pos ⟨hup, hroom⟩
  rw [State.requestRestart, if_neg (by simp [hs.1, hs.2]), Comms.joinLow, hjoin]
  rfl

/-- A refused REPLY is counted, and the warm restart is entered (R199). -/
theorem State.requestRestart_refused (hfull : s.comms.w.link = .down ∨ 8 ≤ s.comms.w.bulk.length) :
    s.requestRestart tag = State.enterRestart .warm
      ((s.onPort .w fun u => { u with frameLoss := min 65535 (u.frameLoss + 1) }).raise .frameLoss 0) := by
  have hjoin : (s.comms.port .w).joinLow s.env .bulk (replyFrame s.channel tag .ok []) = none :=
    if_neg (PortUnit.no_room_for_bulk hfull)
  have hcounted := State.discard_eq .w s
  simp only [portNum] at hcounted
  rw [← hcounted]
  rw [State.requestRestart, if_neg (by simp [hs.1, hs.2]), Comms.joinLow, hjoin]
  rfl

end Requesting

/-- Settles O47. -/
theorem restartCommandWaitsForReply : Obligations.RestartCommandWaitsForReply := fun tag _ _ hs =>
  ⟨fun hup hroom => congrArg _ (State.requestRestart_joined tag hs hup hroom),
    fun hfull => congrArg _ (State.requestRestart_refused tag hs hfull)⟩

end Sys2Proof.Machine
end

section
/-! PROOF. Table memory by its commands (R183 to R192): TABLE-OPEN, TABLE-WRITE, TABLE-CLOSE with its checks, and the
commands that read tables. -/

namespace Sys2Proof.Machine

/-- A command taken, as the outcome of its row: the state its rule leaves, with the REPLY offered (R193). -/
theorem State.managed_next {s t : State} {tag : Byte} {body : State → Answer} {st : Status} {fields : List Byte}
    (hs : s.listens) (hb : body s = t.says st fields) (hc : t.channel = s.channel) :
    (.next (s.managed tag body) : Host.Outcome State Fault Refusal) = .next (t.replied tag st fields) :=
  congrArg _ (State.managed_says tag hs hb hc)

/-! ### The ids (R183) -/

theorem tableOfNum_none {v : Nat} (h : 8 ≤ v) : tableOfNum v = none := by
  obtain ⟨n, rfl⟩ := Nat.exists_eq_add_of_le' h
  rfl

theorem exists_tableNum {v : Nat} (h : v < 8) : ∃ t, (tableNum t).val = v := by
  have hall : ∀ v : Fin 8, (tableOfNum v.val).map tableNum = some v := by decide
  obtain ⟨t, -, ht⟩ := Option.map_eq_some_iff.mp (hall ⟨v, h⟩)
  exact ⟨t, congrArg Fin.val ht⟩

/-- The maximum entries and the words per entry, listed by id (R183). -/
theorem table_sizes (t : TableId) : [4, 4, 68, 8, 48, 8, 8, 64].getD (tableNum t).val 0 = maxEntries t ∧
    [3, 12, 1, 9, 10, 8, 7, 7].getD (tableNum t).val 0 = wordsPerEntry t := by
  cases t <;> exact ⟨rfl, rfl⟩

/-! ### TABLE-OPEN (R185, R186) -/

section Opening

theorem State.outputOffCentre_iff (s : State) : s.outputOffCentre = true ↔ ∃ (j : Fin 8) (a : Actuator),
    s.steer.actuators[j] = some a ∧ s.params.centreWindow < a.output.natAbs := by
  have hone (x : Option Actuator) : (match x with
      | some a => decide (s.params.centreWindow < a.output.natAbs)
      | none => false) = true ↔ ∃ a, x = some a ∧ s.params.centreWindow < a.output.natAbs := by
    cases x <;> simp
  simp only [State.outputOffCentre, List.any_eq_true, List.mem_finRange, true_and]
  exact exists_congr fun j => hone _

theorem State.afterOpen_channel (t : TableId) (s : State) : (s.afterOpen t).channel = s.channel := by
  cases t <;> simp [State.afterOpen]

theorem State.openTable_channel (t : TableId) (n : Nat) (s : State) : (s.openTable t n).channel = s.channel :=
  State.afterOpen_channel t _

variable {s : State} {args : List Byte} (hlen : 2 ≤ args.length)

include hlen

theorem State.tableOpen_beyond (hid : 8 ≤ byteAt args 0) : s.tableOpen args = s.says .badIndex [] := by
  rw [State.tableOpen, State.needs_met _ _ hlen, tableOfNum_none hid]

variable {t : TableId} (hid : (tableNum t).val = byteAt args 0)

include hid

theorem State.tableOpen_busy {held : TableId} (hslot : s.mgmt.loadSlot = some held) :
    s.tableOpen args = s.says .busy [BitVec.ofNat 8 (tableNum held).val] := by
  rw [State.tableOpen, State.needs_met _ _ hlen, ← hid, tableOfNum_tableNum, hslot]

theorem State.tableOpen_free (hslot : s.mgmt.loadSlot = none) : s.tableOpen args =
    if s.inUse t then s.says .inUse []
    else (s.openTable t (clampNat 1 (maxEntries t) (byteAt args 1))).says
      (if clampNat 1 (maxEntries t) (byteAt args 1) = byteAt args 1 then .ok else .clamped)
      (fieldOf 1 (clampNat 1 (maxEntries t) (byteAt args 1))) := by
  rw [State.tableOpen, State.needs_met _ _ hlen, ← hid, tableOfNum_tableNum, hslot]

end Opening

/-- Settles O35. -/
theorem tableOpenTakesTheSlot : Obligations.TableOpenTakesTheSlot := by
  intro tag args s hs hlen id
  refine ⟨fun hid => State.managed_next hs (State.tableOpen_beyond hlen hid) rfl, fun held hid hslot => ?_,
    fun t hid hslot => ?_⟩
  · obtain ⟨t, ht⟩ := exists_tableNum hid
    exact State.managed_next hs (State.tableOpen_busy hlen ht hslot) rfl
  · intro engaged used top width n table opened ceased
    have hengaged : s.enginesEngaged = true ↔ engaged := by
      simp only [State.enginesEngaged_iff, Gear.inGear_iff]
      rfl
    have hused : s.inUse t = true ↔ used := by
      cases t with
      | station | engine | curve => exact hengaged
      | actuator => exact s.outputOffCentre_iff
      | coupling => exact Option.isSome_iff_ne_none
      | meter | tank | route => exact Bool.false_eq_true.to_iff
    obtain ⟨htop, hwidth⟩ := table_sizes t
    have hn : clampNat 1 (maxEntries t) (byteAt args 1) = n := by
      rw [← htop, hid]
      rfl
    have hceased : s.openTable t n = ceased := by
      have htable : loadingTable t n = table := by
        rw [loadingTable, ← hwidth, hid]
      have hopened : State.afterOpen opened t = s.openTable t n := by
        rw [State.openTable, htable]
        rfl
      rw [← hopened]
      cases t <;> rfl
    have hfree := State.tableOpen_free hlen hid hslot
    rw [hn, hceased] at hfree
    exact ⟨fun h => State.managed_next hs (hfree.trans (if_pos (hused.mpr h))) rfl,
      fun h => State.managed_next hs (hfree.trans (if_neg (mt hused.mp h))) (hceased ▸ State.openTable_channel t n s)⟩

/-! ### TABLE-WRITE (R187) -/

theorem wordsOf_length : ∀ l : List Byte, (wordsOf l).length = l.length / 2
  | [] => rfl
  | [_] => by simp [wordsOf]
  | _ :: _ :: rest => by
    rw [wordsOf, List.length_cons, wordsOf_length rest, List.length_cons, List.length_cons, Nat.add_assoc,
      Nat.add_div_right _ (by decide)]

/-- Word `j` of an argument list is its bytes `2j` and `2j + 1` (R187). -/
theorem wordsOf_getElem? : ∀ (l : List Byte) (j : Nat), j < l.length / 2 →
    (wordsOf l)[j]? = some (l.getD (2 * j) 0 ++ l.getD (2 * j + 1) 0)
  | [], _, h => absurd h (by simp)
  | [_], _, h => absurd h (by simp)
  | _ :: _ :: _, 0, _ => rfl
  | _ :: _ :: rest, j + 1, h => wordsOf_getElem? rest j (by simp only [List.length_cons] at h; omega)

/-- What a list reads after words have been stored within it (R187). -/
theorem storeWords_getElem? {l new : List Word} {k : Nat} (h : k + new.length ≤ l.length) (j : Nat) :
    (storeWords l k new)[j]? =
      if j < k then l[j]? else if j < k + new.length then new[j - k]? else l[j]? := by
  have hfront : (l.take k).length = k := by simp; omega
  have hback : (l.take k ++ new).length = k + new.length := by simp; omega
  unfold storeWords
  split_ifs with hbefore hwithin
  · rw [List.getElem?_append_left (by omega), List.getElem?_append_left (by omega), List.getElem?_take_of_lt hbefore]
  · rw [List.getElem?_append_left (by omega), List.getElem?_append_right (by omega), hfront]
  · rw [List.getElem?_append_right (by omega), hback, List.getElem?_drop]
    congr 1
    omega

section Writing

variable {s : State} {args : List Byte}

theorem State.tableWrite_free (hslot : s.mgmt.loadSlot = none) : s.tableWrite args = s.says .badState [] := by
  rw [State.tableWrite, hslot]

variable {t : TableId} (hslot : s.mgmt.loadSlot = some t)

include hslot

theorem State.tableWrite_held : s.tableWrite args =
    if args.length ∉ [2, 4, 6] then s.says .badValue []
    else if (s.table t).words.length < s.mgmt.writeIndex + args.length / 2 then s.says .badIndex []
    else (s.written t (wordsOf args)).says .ok (fieldOf 2 (s.mgmt.writeIndex + args.length / 2)) := by
  have hodd : (args.length ∉ [2, 4, 6]) = (args.length ≠ 2 ∧ args.length ≠ 4 ∧ args.length ≠ 6) := by simp
  rw [State.tableWrite, hslot, ← wordsOf_length]
  simp only [hodd]
  rfl

end Writing

/-- Settles O36. -/
theorem tableWriteStoresWords : Obligations.TableWriteStoresWords := by
  intro tag args s hs k at_
  refine ⟨fun hslot => State.managed_next hs (State.tableWrite_free hslot) rfl, fun hslot hodd => ?_,
    fun t hslot hwords hfull => ?_, fun t hslot hwords hroom => ?_⟩
  · obtain ⟨t, ht⟩ := Option.ne_none_iff_exists'.mp hslot
    exact State.managed_next hs ((State.tableWrite_held ht).trans (if_pos hodd)) rfl
  · exact State.managed_next hs
      ((State.tableWrite_held hslot).trans ((if_neg (not_not.mpr hwords)).trans (if_pos hfull))) rfl
  · have hnew : (wordsOf args).length = k := wordsOf_length args
    have hfits : at_ + (wordsOf args).length ≤ (s.table t).words.length := hnew ▸ hroom
    refine ⟨storeWords (s.table t).words at_ (wordsOf args), storeWords_length hfits, fun j hj => ?_,
      fun j hj => ?_, ?_⟩
    · rw [storeWords_getElem? hfits, if_neg (by omega), if_pos (by omega), Nat.add_sub_cancel_left,
        wordsOf_getElem? args j hj]
    · rw [storeWords_getElem? hfits, hnew]
      rcases hj with hbefore | hafter
      · rw [if_pos hbefore]
      · rw [if_neg (by omega), if_neg (by omega)]
    · have hwritten : s.written t (wordsOf args) = { s with mgmt := { s.mgmt with
          tables := put s.mgmt.tables (tableNum t)
            { s.table t with words := storeWords (s.table t).words at_ (wordsOf args) }
          writeIndex := at_ + k } } := by
        rw [State.written, hnew]
        rfl
      rw [← hwritten]
      exact State.managed_next hs ((State.tableWrite_held hslot).trans
        ((if_neg (not_not.mpr hwords)).trans (if_neg (Nat.not_lt.mpr hroom)))) rfl

/-! ### The CRC (R188) -/

/-- The bits of a list of words, most significant first (R188). -/
def bitsOfWords (l : List Word) : List Bool := l.flatMap fun w => (List.range 16).map fun k => w.getLsbD (15 - k)

/-- The two bytes of a word enter the CRC register as its sixteen bits, most significant first (R188). -/
theorem crcByte_word (w : Word) (reg : BitVec 16) :
    crcByte (crcByte reg (w.extractLsb' 8 8)) (w.extractLsb' 0 8) =
      ((List.range 16).map fun k => w.getLsbD (15 - k)).foldl crcBit reg := by
  simp [crcByte, List.range_succ]

theorem foldl_crcByte (l : List Word) (reg : BitVec 16) :
    (bytesOfWords l).foldl crcByte reg = (bitsOfWords l).foldl crcBit reg := by
  induction l generalizing reg with
  | nil => rfl
  | cons w rest ih =>
    rw [bytesOfWords, List.foldl_cons, List.foldl_cons, ih, crcByte_word, bitsOfWords, bitsOfWords,
      List.flatMap_cons, List.foldl_append]

/-- The CRC of a table is formed bit by bit over its words (R188). -/
theorem crcOf_bytesOfWords (l : List Word) : crcOf (bytesOfWords l) = (bitsOfWords l).foldl (fun (reg : BitVec 16) b =>
    if reg.getLsbD 15 = b then reg <<< 1 else (reg <<< 1) ^^^ 0x1021#16) 0xFFFF#16 := by
  have hbit : crcBit = fun (reg : BitVec 16) b =>
      if reg.getLsbD 15 = b then reg <<< 1 else (reg <<< 1) ^^^ 0x1021#16 := by
    funext reg b
    rw [crcBit, BitVec.msb_eq_getLsbD_last]
  rw [crcOf, foldl_crcByte, hbit]

/-! ### TABLE-CLOSE (R188, R190) -/

section Closing

variable {s : State} {args : List Byte} (hlen : 2 ≤ args.length)

@[simp] theorem State.afterReady_channel (t : TableId) (s : State) : (s.afterReady t).channel = s.channel := by
  cases t <;> simp [State.afterReady, State.createActuators]

include hlen

theorem State.tableClose_free (hslot : s.mgmt.loadSlot = none) : s.tableClose args = s.says .badState [] := by
  rw [State.tableClose, State.needs_met _ _ hlen, hslot]

variable {t : TableId} (hslot : s.mgmt.loadSlot = some t)

include hslot

theorem State.tableClose_fails {cause : Cause} {detail : Nat}
    (h : s.closeCheck t (u16At args 0) = some (cause, detail)) :
    s.tableClose args = ((s.endLoad t .rejected cause).raise .tableRejected (tableNum t).val).says .rejected
      (causeCode cause :: fieldOf 2 detail) := by
  rw [State.tableClose, State.needs_met _ _ hlen, hslot]
  dsimp only
  rw [h]

theorem State.tableClose_passes (h : s.closeCheck t (u16At args 0) = none) : s.tableClose args =
    ((s.endLoad t .ready .none).afterReady t).says .ok (fieldOf 1 (s.table t).count) := by
  rw [State.tableClose, State.needs_met _ _ hlen, hslot]
  dsimp only
  rw [h]

end Closing

/-- Settles O37. -/
theorem tableCloseChecksInTurn : Obligations.TableCloseChecksInTurn := by
  intro tag args s hs hlen
  refine ⟨fun hslot => State.managed_next hs (State.tableClose_free hlen hslot) rfl, fun t hslot => ?_⟩
  intro x bits crc ended rejected
  have hcrc : crcOf (bytesOfWords x.words) = crc := crcOf_bytesOfWords x.words
  have hcheck : s.closeCheck t (u16At args 0) =
      if s.mgmt.writeIndex ≠ x.words.length then some (.count, s.mgmt.writeIndex)
      else if crc.toNat ≠ u16At args 0 then some (.check, crc.toNat)
      else (s.contentBreach t x).map fun i => (.content, i) := by
    rw [← hcrc]
    rfl
  have fails {cause : Cause} {detail : Nat} (h : s.closeCheck t (u16At args 0) = some (cause, detail)) :
      exec (.tableClose tag args) s = rejected cause (causeCode cause) detail :=
    State.managed_next hs (State.tableClose_fails hlen hslot h) rfl
  have reaches (hcount : s.mgmt.writeIndex = x.words.length) (hsame : crc.toNat = u16At args 0) :
      s.closeCheck t (u16At args 0) = (s.contentBreach t x).map fun i => (.content, i) :=
    hcheck.trans ((if_neg (not_not.mpr hcount)).trans (if_neg (not_not.mpr hsame)))
  refine ⟨fun hcount => fails (hcheck.trans (if_pos hcount)), fun hcount hdiffers => ?_,
    fun i hcount hsame hbreach => ?_, fun hcount hsame hsound => ?_⟩
  · exact fails (hcheck.trans ((if_neg (not_not.mpr hcount)).trans (if_pos hdiffers)))
  · exact fails ((reaches hcount hsame).trans (by rw [hbreach]; rfl))
  · have hpass : s.closeCheck t (u16At args 0) = none := (reaches hcount hsame).trans (by rw [hsound]; rfl)
    exact State.managed_next hs (State.tableClose_passes hlen hslot hpass) (State.afterReady_channel t _)

/-! ### The content rules (R189) -/

/-- The lowest index below `n` in breach, when `bad` says the rule is broken there. -/
theorem firstBreach_lowest {n : Nat} {b : Nat → Bool} {bad : Nat → Prop} (h : ∀ i, bad i ↔ i < n ∧ b i = true) :
    (∀ i, bad i → (∀ k < i, ¬bad k) → firstBreach n b = some i) ∧ ((∀ i, ¬bad i) → firstBreach n b = none) := by
  unfold firstBreach
  refine ⟨fun i hi hlow => ?_, fun hnone => ?_⟩
  · obtain ⟨hin, hb⟩ := (h i).mp hi
    refine List.find?_range_eq_some.mpr ⟨hb, List.mem_range.mpr hin, fun k hk => ?_⟩
    simpa using fun hbk => hlow k hk ((h k).mpr ⟨hk.trans hin, hbk⟩)
  · refine List.find?_eq_none.mpr fun k hk hbk => hnone k ((h k).mpr ⟨List.mem_range.mp hk, hbk⟩)

theorem Table.curveRises_iff (x : Table) (c : Nat) : x.curveRises c = false ↔
    ∃ p < 16, x.word 1 (17 * c + p + 1) 0 < x.word 1 (17 * c + p) 0 := by
  rw [← Bool.not_eq_true]
  simp [Table.curveRises]

theorem couplingKindOf_eq_bowBoat (v : Nat) : couplingKindOf v = .bowBoat ↔ v = 3 := by
  unfold couplingKindOf
  split_ifs <;> simp_all

theorem State.bowUnnamed_iff (s : State) (x : Table) (i : Nat) : s.bowUnnamed x i = true ↔
    x.word 9 i 0 ≠ 0 ∧ x.word 9 i 1 = 2 ∧ ¬(s.ready .coupling = true ∧
      min 47 (x.word 9 i 8) < (s.table .coupling).count ∧ s.entryWord .coupling (min 47 (x.word 9 i 8)) 3 = 3) := by
  have hkind (k : Nat) : (couplingEntryOf (s.table .coupling) k).kind = .bowBoat ↔ s.entryWord .coupling k 3 = 3 :=
    couplingKindOf_eq_bowBoat _
  simp only [State.bowUnnamed, State.reaches, Bool.and_eq_true, decide_eq_true_eq, Bool.not_eq_true', ← Bool.not_eq_true,
    actuatorKindOf_eq_bow, hkind, and_assoc]

theorem Table.sharesPoint_iff (x : Table) (i : Nat) : x.sharesPoint i = true ↔
    x.word 10 i 0 ≠ 0 ∧ ∃ k < i, x.word 10 k 0 ≠ 0 ∧
      (min 63 (x.word 10 k 1), min 3 (x.word 10 k 2)) = (min 63 (x.word 10 i 1), min 3 (x.word 10 i 2)) := by
  simp only [Table.sharesPoint, Bool.and_eq_true, decide_eq_true_eq, List.any_eq_true, List.mem_range, Prod.mk.injEq]
  rfl

/-- Settles O38: each rule is a search for the lowest index in breach. -/
theorem contentRulesFindLowestBreach : Obligations.ContentRulesFindLowestBreach := by
  intro t x s w wide point bad
  cases t with
  | station | meter => exact ⟨fun _ hbad => hbad.elim, fun _ => rfl⟩
  | engine | tank => exact firstBreach_lowest fun i => by simp only [Bool.or_eq_true, decide_eq_true_eq]; rfl
  | curve =>
    refine firstBreach_lowest fun i => ?_
    simp only [Bool.and_eq_true, decide_eq_true_eq, Bool.not_eq_true', Table.curveRises_iff]
    rfl
  | actuator => exact firstBreach_lowest fun i => and_congr_right fun _ => (s.bowUnnamed_iff x i).symm
  | coupling =>
    refine firstBreach_lowest fun i => ?_
    simp only [Bool.or_eq_true, decide_eq_true_eq, Table.sharesPoint_iff]
    rfl
  | route => exact firstBreach_lowest fun i => and_congr_right fun _ => decide_eq_true_iff.symm

/-! ### Reading tables (R191, R192) -/

theorem bytesOfWords_eq_flatMap (l : List Word) :
    bytesOfWords l = l.flatMap fun w => [w.extractLsb' 8 8, w.extractLsb' 0 8] := by
  induction l with
  | nil => rfl
  | cons w rest ih => rw [bytesOfWords, ih]; rfl

/-- The id in the load slot as a byte, 255 when the slot is free (R192). -/
def State.slotByte (s : State) : Byte := (s.mgmt.loadSlot.map fun held => BitVec.ofNat 8 (tableNum held).val).getD 255

section Reading

variable {s : State} {args : List Byte}

theorem State.tableSeek_beyond (hlen : 3 ≤ args.length) (hid : 8 ≤ byteAt args 0) :
    s.tableSeek args = s.says .badIndex [] := by
  rw [State.tableSeek, State.needs_met _ _ hlen, tableOfNum_none hid]

theorem State.tableStateOf_beyond (hlen : 1 ≤ args.length) (hid : 8 ≤ byteAt args 0) :
    s.tableStateOf args = s.says .badIndex [] := by
  rw [State.tableStateOf, State.needs_met _ _ hlen, tableOfNum_none hid]

theorem State.tableRead_eq : s.tableRead args =
    let x := s.table s.mgmt.readTable
    if x.state = .loading then s.says .badState []
    else if x.words.length ≤ s.mgmt.readIndex then s.says .badIndex []
    else State.says { s with mgmt := { s.mgmt with
        readIndex := s.mgmt.readIndex + ((x.words.drop s.mgmt.readIndex).take 3).length } } .ok
      (bytesOfWords ((x.words.drop s.mgmt.readIndex).take 3)) := rfl

variable {t : TableId} (hid : (tableNum t).val = byteAt args 0)

include hid

theorem State.tableSeek_named (hlen : 3 ≤ args.length) : s.tableSeek args =
    if (s.table t).words.length ≤ u16At args 1 then s.says .badIndex []
    else State.says { s with mgmt := { s.mgmt with readTable := t, readIndex := u16At args 1 } } .ok [] := by
  rw [State.tableSeek, State.needs_met _ _ hlen, ← hid, tableOfNum_tableNum]
  rfl

theorem State.tableStateOf_named (hlen : 1 ≤ args.length) : s.tableStateOf args = s.says .ok
    ([tableStateCode (s.table t).state] ++ fieldOf 1 (s.table t).count ++
      [if (s.table t).state = .rejected then causeCode (s.table t).cause else 0] ++
      fieldOf 2 (if (s.table t).state = .loading then s.mgmt.writeIndex else 0) ++
      [s.slotByte]) := by
  rw [State.tableStateOf, State.needs_met _ _ hlen, ← hid, tableOfNum_tableNum, State.slotByte]
  cases s.mgmt.loadSlot <;> rfl

end Reading

/-- Settles O40. -/
theorem tableReadsReturnWords : Obligations.TableReadsReturnWords := by
  intro tag args s hs id state cause
  refine ⟨rfl, fun hlen => ⟨fun hid => ?_, fun t hid hbeyond => ?_, fun t hid hwithin => ?_⟩, ?_,
    fun hlen => ⟨fun hid => ?_, fun t hid => ?_⟩⟩
  · exact State.managed_next hs (State.tableSeek_beyond hlen hid) rfl
  · exact State.managed_next hs ((State.tableSeek_named hid hlen).trans (if_pos hbeyond)) rfl
  · exact State.managed_next hs ((State.tableSeek_named hid hlen).trans (if_neg (Nat.not_le.mpr hwithin))) rfl
  · intro x words
    have hread : s.tableRead args = _ := State.tableRead_eq
    refine ⟨fun hloading => ?_, fun hstate hend => ?_, fun hstate hwithin => ?_⟩
    · exact State.managed_next hs (hread.trans (if_pos hloading)) rfl
    · exact State.managed_next hs (hread.trans ((if_neg hstate).trans (if_pos hend))) rfl
    · rw [← bytesOfWords_eq_flatMap]
      exact State.managed_next hs (hread.trans ((if_neg hstate).trans (if_neg (Nat.not_le.mpr hwithin)))) rfl
  · exact State.managed_next hs (State.tableStateOf_beyond hlen hid) rfl
  · have hstate : tableStateCode = state := funext fun x => by cases x <;> rfl
    have hcause : causeCode = cause := funext fun x => by cases x <;> rfl
    intro x slot
    have hslot : s.slotByte = slot := by
      simp only [State.slotByte, slot]
      cases s.mgmt.loadSlot <;> rfl
    rw [← hstate, ← hcause, ← hslot]
    exact State.managed_next hs (State.tableStateOf_named hid hlen) rfl

end Sys2Proof.Machine
end

section
/-! PROOF. COUNTER-READ and NOTICE-CLEAR (R195, R197, R203), and what holds of every management command: too few argument
bytes, a restart pending, the form of a REPLY and of its fields (R193, R199, R201, R202). -/

namespace Sys2Proof.Machine

/-! ### COUNTER-READ (R195, R203) -/

/-- The code of a counter (R203). -/
def Counter.code : Counter → Nat
  | .malformed p => portNum p
  | .frameLoss p => 3 + portNum p
  | .repeats i => 8 + i.val
  | .glitches i => 16 + i.val
  | .lastIndex k => 32 + k.val

theorem counterOfCode_code (c : Counter) : counterOfCode c.code = some c := by
  cases c with
  | malformed p | frameLoss p => cases p <;> rfl
  | repeats i | glitches i | lastIndex i => decide +revert

/-- Below 52 every code outside the gaps of R203 names the counter of that code. -/
theorem counterOfCode_below (k : Fin 52) : (counterOfCode k.val).map Counter.code =
    if k.val = 6 ∨ k.val = 7 ∨ 12 ≤ k.val ∧ k.val ≤ 15 ∨ 24 ≤ k.val ∧ k.val ≤ 31 then none else some k.val := by
  decide +revert

theorem exists_counter_of_code {k : Nat}
    (h : k ≤ 5 ∨ 8 ≤ k ∧ k ≤ 11 ∨ 16 ≤ k ∧ k ≤ 23 ∨ 32 ≤ k ∧ k ≤ 51) : ∃ c : Counter, c.code = k := by
  have hnamed := (counterOfCode_below ⟨k, by omega⟩).trans (if_neg (by dsimp only; omega))
  obtain ⟨c, -, hc⟩ := Option.map_eq_some_iff.mp hnamed
  exact ⟨c, hc⟩

theorem counterOfCode_none {k : Nat} (h : k = 6 ∨ k = 7 ∨ 12 ≤ k ∧ k ≤ 15 ∨ 24 ≤ k ∧ k ≤ 31 ∨ 52 ≤ k) :
    counterOfCode k = none := by
  by_cases hk : k < 52
  · have hgap := (counterOfCode_below ⟨k, hk⟩).trans (if_pos (by dsimp only; omega))
    exact Option.map_eq_none_iff.mp hgap
  · have hbeyond : index? 20 (k - 32) = none := dif_neg (by omega)
    unfold counterOfCode
    rw [if_neg (by omega), if_neg (by omega), if_neg (by omega), if_neg (by omega), if_neg (by omega),
      if_neg (by omega), if_neg (by omega), hbeyond]
    rfl

section Counting

variable {s : State} {args : List Byte} (hlen : 2 ≤ args.length)

include hlen

theorem State.counterRead_none (h : counterOfCode (byteAt args 0) = none) :
    s.counterRead args = s.says .badIndex [] := by
  rw [State.counterRead, State.needs_met _ _ hlen, h]

theorem State.counterRead_named {c : Counter} (hc : c.code = byteAt args 0) : s.counterRead args =
    if 1 < byteAt args 1 then s.says .badValue []
    else (if byteAt args 1 = 1 then s.zeroed c else s).says .ok (fieldOf 2 (s.counter c)) := by
  rw [State.counterRead, State.needs_met _ _ hlen, ← hc, counterOfCode_code]

end Counting

theorem State.zeroed_channel (c : Counter) (s : State) : (s.zeroed c).channel = s.channel := by
  cases c <;> rfl

/-! ### NOTICE-CLEAR (R197) -/

theorem flagSet_eq_sum (v : Vector Notice 20) :
    flagSet v = ((List.finRange 20).map fun k => if v[k].flag then 2 ^ k.val else 0).sum :=
  foldl_add_eq_sum _ _

/-- The flags of the set are cleared, and every last index is kept (R197). -/
theorem clearFlags_eq (set : Nat) (v : Vector Notice 20) :
    clearFlags set v = remap v fun k x => { x with flag := x.flag && !set.testBit k.val } := by
  refine congrArg (remap v) (funext fun k => funext fun x => ?_)
  cases set.testBit k.val <;> simp

/-- The standing flags are answered, then those of the set are cleared (R197). -/
theorem State.noticeClear_met {s : State} {args : List Byte} (hlen : 3 ≤ args.length) : s.noticeClear args =
    State.says { s with comms := { s.comms with notices := remap s.comms.notices fun k x =>
        { x with flag := x.flag && !(u24At args 0).testBit k.val } } } .ok
      (fieldOf 3 ((List.finRange 20).map fun k => if s.comms.notices[k].flag then 2 ^ k.val else 0).sum) := by
  rw [State.noticeClear, State.needs_met _ _ hlen, clearFlags_eq, flagSet_eq_sum]

/-- Settles O43. -/
theorem countersAndNoticesReadAndClear : Obligations.CountersAndNoticesReadAndClear := by
  intro tag args s hs k z out
  refine ⟨fun hlen => ⟨fun hk => ?_, fun hk hz => ?_, fun hz => ?_⟩, fun hlen => ?_⟩
  · exact State.managed_next hs (State.counterRead_none hlen (counterOfCode_none hk)) rfl
  · obtain ⟨c, hc⟩ := exists_counter_of_code hk
    exact State.managed_next hs ((State.counterRead_named hlen hc).trans (if_pos hz)) rfl
  · have read {c : Counter} (hc : k = c.code) : out (s.counter c) (s.zeroed c) := by
      refine State.managed_next hs ((State.counterRead_named hlen hc.symm).trans (if_neg (Nat.not_lt.mpr hz))) ?_
      split
      · exact State.zeroed_channel c s
      · rfl
    exact ⟨fun p hp => read (c := .malformed p) hp, fun p hp => read (c := .frameLoss p) hp,
      fun i hi => read (c := .repeats i) hi, fun i hi => read (c := .glitches i) hi,
      fun n hn => read (c := .lastIndex n) hn⟩
  · intro standing notices
    exact State.managed_next hs (State.noticeClear_met hlen) rfl

/-! ### The fields of a REPLY (R201) -/

theorem bytesOf_length (n v : Nat) : (bytesOf n v).length = n := by
  induction n with
  | zero => rfl
  | succ n ih => rw [bytesOf, List.length_cons, ih]

/-- Byte `k` of a field of `n` bytes, most significant first (R201). -/
theorem bytesOf_getElem? {n k : Nat} (v : Nat) (h : k < n) :
    (bytesOf n v)[k]? = some (BitVec.ofNat 8 (v / 256 ^ (n - 1 - k))) := by
  induction n generalizing k with
  | zero => exact absurd h (Nat.not_lt_zero k)
  | succ n ih =>
    cases k with
    | zero => rfl
    | succ k =>
      rw [bytesOf, List.getElem?_cons_succ, ih (Nat.lt_of_succ_lt_succ h)]
      congr 4
      omega

/-- Settles O44. -/
theorem commandsRefusedOrDiscarded : Obligations.CommandsRefusedOrDiscarded := by
  intro tag code args s rows others
  have hneeds : ∀ row ∈ rows, ∃ rule : State → Answer,
      exec row.2 s = .next (s.managed tag fun s => s.needs row.1 args (rule s)) := by
    simp only [rows, List.forall_mem_cons]
    exact ⟨⟨_, rfl⟩, ⟨_, rfl⟩, ⟨_, rfl⟩, ⟨_, rfl⟩, ⟨_, rfl⟩, ⟨_, rfl⟩, ⟨_, rfl⟩, ⟨_, rfl⟩, ⟨_, rfl⟩, ⟨_, rfl⟩,
      ⟨_, rfl⟩, ⟨_, rfl⟩, ⟨_, rfl⟩, ⟨_, rfl⟩, ⟨_, rfl⟩, ⟨_, rfl⟩, ⟨_, rfl⟩, List.forall_mem_nil _⟩
  refine ⟨fun n c hrow hs hshort => ?_, fun hs => State.managed_next hs rfl rfl, fun c hc hpending => ?_,
    fun st results => ?_, fun n k v i => ⟨bytesOf_length _ _, bytesOf_length _ _, fun hk => ⟨bytesOf_getElem? _ hk, ?_⟩⟩⟩
  · obtain ⟨rule, hrule⟩ := hneeds (n, c) hrow
    rw [hrule]
    exact State.managed_next hs (State.needs_short s (rule s) hshort) rfl
  · have discarded (body : State → Answer) :
        Host.Outcome.next (φ := Fault) (ρ := Refusal) (s.managed tag body) = .next s :=
      congrArg _ (State.managed_discarded tag body fun hs => hpending hs.2)
    have hrestart : s.requestRestart tag = s := by
      rw [State.requestRestart, if_pos (by simp [Option.isSome_iff_ne_none, hpending])]
    rcases List.mem_append.mp hc with hc | hc
    · have hothers : ∀ c ∈ others, exec c s = .next s := by
        simp only [others, List.forall_mem_cons]
        exact ⟨discarded _, discarded _, discarded _, congrArg _ hrestart, discarded _, List.forall_mem_nil _⟩
      exact hothers c hc
    · obtain ⟨row, hrow, rfl⟩ := List.mem_map.mp hc
      obtain ⟨rule, hrule⟩ := hneeds row hrow
      exact hrule.trans (discarded _)
  · intro status
    have hstatus : statusCode st = status := by cases st <;> rfl
    rw [← hstatus]
    rfl
  · rw [signedField, bytesOf_getElem? _ hk]
    push_cast
    rfl

end Sys2Proof.Machine
end

section
/-! PROOF. RECORD-READ by kind, index and item code, and the fields it answers (R40, R84, R107, R128, R165, R176, R195,
R202, R204). -/

namespace Sys2Proof.Machine

/-! ### Fields written otherwise than in the model (R202, R204) -/

/-- A last sequence as a field of one byte (R40). -/
theorem fieldOf_seqByte (v : Option Nat) : fieldOf 1 (v.getD 255 % 256) = [seqByte v] := by
  have hcap : min (v.getD 255 % 256) (256 ^ 1 - 1) = v.getD 255 % 256 := by omega
  rw [fieldOf, hcap, seqByte]
  simp [bytesOf, ← BitVec.toNat_inj]

theorem helmFreshnessCode_eq (x : HelmFreshness) : helmFreshnessCode x = if x = .live then 0 else 1 := by
  cases x <;> rfl

theorem State.sync_isSome (s : State) (g : Nat) : (s.sync g).isSome =
    if g = 1 then s.prop.sync1.isSome else if g = 2 then s.prop.sync2.isSome else false := by
  unfold State.sync
  split_ifs <;> rfl

theorem ActuatorEntry.limitAt_eq (level : Nat) (x : ActuatorEntry) :
    x.limitAt level = if level < 3 ∨ x.kind = .bow then x.limit else x.limit * 2 / 3 := by
  have hcut : ¬(3 ≤ level ∧ x.kind ≠ .bow) ↔ level < 3 ∨ x.kind = .bow := by
    rw [not_and_or, Nat.not_le, not_not]
  simp only [← hcut, ite_not, ActuatorEntry.limitAt]

theorem ActuatorEntry.rateAt_eq (level : Nat) (x : ActuatorEntry) :
    x.rateAt level = if level < 2 then x.rate else max 1 (x.rate / 2) := by
  simp only [← Nat.not_le, ite_not, ActuatorEntry.rateAt]

/-! ### The record an index names (R195, R204) -/

section Indexing

variable {α β : Type} {n k : Nat} {v : Vector (Option α) n} {f : Fin n → α → β}

theorem index?_eq_none (h : n ≤ k) : index? n k = none := dif_neg (Nat.not_lt.mpr h)

theorem index?_record {i : Fin n} {x : α} (hi : i.val = k) (hx : v[i] = some x) :
    ((index? n k).bind fun i => v[i].map (f i)) = some (f i x) := by
  rw [index?_eq_some.mpr hi.symm, Option.bind_some, hx, Option.map_some]

theorem index?_noRecord (h : ∀ i : Fin n, i.val = k → v[i] = none) :
    ((index? n k).bind fun i => v[i].map (f i)) = none := by
  refine Option.bind_eq_none_iff.mpr fun i hi => ?_
  rw [h i (index?_eq_some.mp hi).symm, Option.map_none]

end Indexing

section Naming

variable (s : State) {k : Nat}

theorem State.recordItem_station {i : Fin 4} (hi : i.val = k) (item : Nat) :
    s.recordItem 0 k item = some (s.stationItem i item) :=
  congrArg (Option.map _) (index?_eq_some.mpr hi.symm)

theorem State.recordItem_coupling (hk : k ≠ 255) (item : Nat) : s.recordItem 4 k item =
    (index? 48 k).bind fun i => s.coup.records[i].map fun r => s.couplingItem i r item := if_neg hk

theorem State.recordItem_meter {i : Fin 8} (hi : i.val = k) (item : Nat) :
    s.recordItem 5 k item = some (s.meterItem i item) := by
  rw [State.recordItem, if_neg (by omega), if_pos (by omega), index?_eq_some.mpr hi.symm]
  rfl

theorem State.recordItem_total {e : Fin 4} (he : k = e.val + 8) (item : Nat) :
    s.recordItem 5 k item = some (s.totalItem e item) := by
  rw [State.recordItem, if_neg (by omega), if_neg (by omega), index?_eq_some.mpr (Nat.sub_eq_of_eq_add he)]
  rfl

theorem State.recordItem_beyondTotals (hk : 12 ≤ k) (htow : k ≠ 255) (item : Nat) : s.recordItem 5 k item = none := by
  rw [State.recordItem, if_neg htow, if_neg (by omega), index?_eq_none (by omega)]
  rfl

end Naming

/-! ### The item codes of a kind and of a meter index (R165, R204) -/

theorem itemCount_eq (kind : Nat) : itemCount kind = [4, 3, 5, 3, 3, 4, 8].getD kind 0 := by
  match kind with
  | 0 | 1 | 2 | 3 | 4 | 5 | 6 | _ + 7 => rfl

theorem itemCount_unknown {kind : Nat} (h : 7 ≤ kind) : itemCount kind = 0 := by
  obtain ⟨n, rfl⟩ := Nat.exists_eq_add_of_le' h
  rfl

theorem meterItemCount_meter {k : Nat} (i : Fin 8) (hi : i.val = k) : meterItemCount k = 4 := if_pos (hi ▸ i.isLt)

theorem meterItemCount_total {k : Nat} (e : Fin 4) (he : k = e.val + 8) : meterItemCount k = 2 := by
  rw [meterItemCount, if_neg (by omega), if_pos (by omega)]

/-! ### The rule (R195) -/

section Reading

variable {s : State} {args : List Byte} (hlen : 3 ≤ args.length)

include hlen

theorem State.recordRead_noItem (h : itemCount (byteAt args 0) ≤ byteAt args 2) :
    s.recordRead args = s.says .badValue [] := by
  rw [State.recordRead, State.needs_met _ _ hlen, if_pos h]

variable {kind : Nat} (hkind : byteAt args 0 = kind) (hitem : byteAt args 2 < itemCount kind)

include hkind hitem

theorem State.recordRead_noRecord (h : s.recordItem kind (byteAt args 1) (byteAt args 2) = none) :
    s.recordRead args = s.says .badIndex [] := by
  rw [State.recordRead, State.needs_met _ _ hlen, hkind, if_neg (Nat.not_le.mpr hitem), h]

theorem State.recordRead_record {fields : List Byte}
    (h : s.recordItem kind (byteAt args 1) (byteAt args 2) = some fields) : s.recordRead args =
      if kind = 5 ∧ meterItemCount (byteAt args 1) ≤ byteAt args 2 then s.says .badValue [] else s.says .ok fields := by
  rw [State.recordRead, State.needs_met _ _ hlen, hkind, if_neg (Nat.not_le.mpr hitem), h]

end Reading

/-- Settles O42, kind by kind: an index either names no record, or names one whose list of items is the answer. -/
theorem recordReadReturnsItems : Obligations.RecordReadReturnsItems := by
  intro tag args s hs hlen kind k item out n1 n2 n3 n6 i2 seq flag gear direction ramp freshness actuator coupling
    couplingKind
  have noRecord {n : Nat} (hkind : kind = n) (hbound : item < itemCount n) (h : s.recordItem n k item = none) :
      out .badIndex [] :=
    State.managed_next hs (State.recordRead_noRecord hlen hkind hbound h) rfl
  have noMeterItem {fields : List Byte} (hkind : kind = 5) (hbound : item < itemCount 5)
      (h : s.recordItem 5 k item = some fields)
      (hbeyond : meterItemCount k ≤ item) : out .badValue [] :=
    State.managed_next hs ((State.recordRead_record hlen hkind hbound h).trans (if_pos ⟨rfl, hbeyond⟩)) rfl
  have read {n : Nat} {fields : Nat → List Byte} (hkind : kind = n) (hbound : item < itemCount n)
      (hmeter : n = 5 → item < meterItemCount k) (h : ∀ j, s.recordItem n k j = some (fields j)) (j : Nat)
      (hj : item = j) : out .ok (fields j) := by
    have hgiven : ¬(n = 5 ∧ meterItemCount k ≤ item) := fun hlack => Nat.not_le.mpr (hmeter hlack.1) hlack.2
    exact hj ▸ State.managed_next hs ((State.recordRead_record hlen hkind hbound (h item)).trans (if_neg hgiven)) rfl
  refine ⟨fun hlack => ?unknown, fun hkind hitem => ?station, fun hkind hitem => ?command, fun hkind hitem => ?engine,
    fun hkind hitem => ?actuator, fun hkind hitem => ?coupling, fun hkind hitem => ?meter, fun hkind hitem => ?tank⟩
  case unknown =>
    refine State.managed_next hs (State.recordRead_noItem hlen ?_) rfl
    rcases hlack with hunknown | hbeyond
    · exact (itemCount_unknown hunknown).trans_le (Nat.zero_le item)
    · exact (itemCount_eq kind).trans_le hbeyond
  case station =>
    have hbound : item < itemCount 0 := Nat.lt_succ_of_le hitem
    refine ⟨fun hk => noRecord hkind hbound (congrArg (Option.map _) (index?_eq_none hk)), fun i hi => ?_⟩
    intro r
    have hseq : seq = fun v => [seqByte v] := funext fieldOf_seqByte
    have answers := read hkind hbound nofun (s.recordItem_station hi)
    rw [hseq]
    exact ⟨answers 0, answers 1, answers 2, answers 3⟩
  case command =>
    have hbound : item < itemCount 1 := Nat.lt_succ_of_le hitem
    refine ⟨fun hk => noRecord hkind hbound (if_neg hk), fun hk => ?_⟩
    have answers := read hkind hbound nofun fun _ => if_pos hk
    exact ⟨answers 0, answers 1, answers 2⟩
  case engine =>
    have hbound : item < itemCount 2 := Nat.lt_succ_of_le hitem
    refine ⟨fun hnone => noRecord hkind hbound (index?_noRecord hnone), fun e c he hc => ?_⟩
    intro synced
    have hsynced : (s.sync (s.engineEntry e).group).isSome = synced := s.sync_isSome _
    have answers := read hkind hbound nofun fun _ => index?_record he hc
    rw [← hsynced]
    exact ⟨answers 0, answers 1, answers 2, answers 3, answers 4⟩
  case actuator =>
    have hbound : item < itemCount 3 := Nat.lt_succ_of_le hitem
    refine ⟨fun hnone => noRecord hkind hbound (index?_noRecord hnone), fun j a hj ha => ?_⟩
    intro x
    have answers := read hkind hbound nofun fun _ => index?_record hj ha
    rw [← helmFreshnessCode_eq, ← ActuatorEntry.limitAt_eq, ← ActuatorEntry.rateAt_eq]
    exact ⟨answers 0, answers 1, answers 2⟩
  case coupling =>
    have hbound : item < itemCount 4 := Nat.lt_succ_of_le hitem
    refine ⟨fun hk hnone => noRecord hkind hbound ((s.recordItem_coupling hk item).trans (index?_noRecord hnone)),
      fun hk => ?_, fun i r hi hr => ?_⟩
    · have answers := read hkind hbound nofun fun _ => if_pos hk
      exact ⟨answers 0, answers 1, answers 2⟩
    · have answers := read hkind hbound nofun fun j =>
        (s.recordItem_coupling (by omega) j).trans (index?_record hi hr)
      exact ⟨answers 0, answers 1, answers 2⟩
  case meter =>
    have hbound : item < itemCount 5 := Nat.lt_succ_of_le hitem
    refine ⟨fun hk htow => noRecord hkind hbound (s.recordItem_beyondTotals hk htow item), fun hk => ?_,
      fun e he => ?_, fun i hi => ?_⟩
    · have hfields (j : Nat) : s.recordItem 5 k j = some (signedField 6 s.fuel.unassigned) := if_pos hk
      have hcount : meterItemCount k = 1 := hk ▸ rfl
      exact ⟨fun h => read hkind hbound (fun _ => by omega) hfields 0 h,
        fun h => noMeterItem hkind hbound (hfields item) (by omega)⟩
    · have hcount := meterItemCount_total e he
      have answers (h : item < 2) := read hkind hbound (fun _ => hcount.symm ▸ h) (s.recordItem_total he)
      exact ⟨fun h => answers (by omega) 0 h, fun h => answers (by omega) 1 h,
        fun h => noMeterItem hkind hbound (s.recordItem_total he item) (hcount.trans_le h)⟩
    · intro r
      have answers := read hkind hbound (fun _ => (meterItemCount_meter i hi).symm ▸ hbound) (s.recordItem_meter hi)
      rw [← hi]
      exact ⟨answers 0, answers 1, answers 2, answers 3⟩
  case tank =>
    have hbound : item < itemCount 6 := Nat.lt_succ_of_le hitem
    refine ⟨fun hnone => noRecord hkind hbound (index?_noRecord hnone), fun t r ht hr => ?_⟩
    intro x
    have answers := read hkind hbound nofun fun _ => index?_record ht hr
    exact ⟨answers 0, answers 1, answers 2, answers 3, answers 4, answers 5, answers 6, answers 7⟩

end Sys2Proof.Machine
end

section
/-! PROOF. What one step does, by the queue (00_scope.md section 1.4): the two branches of the step, StepTakesFrontCommand. -/

namespace Sys2Proof.Machine

theorem step_of_pending_cons {c : Instr} {rest : List Instr} {s : State} (h : s.pending = c :: rest) :
    step s = exec c { s with pending := rest } := by
  unfold step
  rw [h]

theorem step_of_pending_nil {s : State} (h : s.pending = []) : step s = .next s := by
  unfold step
  rw [h]

/-- Settles O1. -/
theorem stepTakesFrontCommand : Obligations.StepTakesFrontCommand :=
  ⟨fun _ _ _ => step_of_pending_cons, fun _ => step_of_pending_nil⟩

end Sys2Proof.Machine
end
